-- ==== Sys2Proof/Config.lean ====
section
/-! DEFINITION. The implementation parameters of 00_scope.md R6, which the spec leaves open: the model takes
them as an argument (the field `cfg` of State), and the machine after reset takes them from constants
nothing in Lean can evaluate (log entry 1). -/

namespace Sys2Proof.Config

/-- The three parameters of 00_scope.md R6. -/
structure Params where
  /-- `MAX_COUNT`, the largest register count BUILD_REQ accepts. -/
  maxCount : Nat
  /-- `RX_CAP`, the capacity of the response buffer in bytes. -/
  rxCap : Nat
  /-- `LAYOUT_SLOTS`, the number of layout slots and of reading registers. -/
  layoutSlots : Nat
  deriving DecidableEq, Repr

/-- The constraints 00_scope.md R6 puts on the parameters. -/
abbrev Params.Ok (p : Params) : Prop :=
  1 ≤ p.maxCount ∧ 2 * p.maxCount + 5 ≤ p.rxCap ∧ p.rxCap ≤ 0xFFFF ∧ 1 ≤ p.layoutSlots ∧ p.layoutSlots ≤ 32

/-- `MAP_CAP = min(127, (RX_CAP - 5) div 2)`, the derived bound of 00_scope.md R6. -/
def Params.mapCap (p : Params) : Nat := min 127 ((p.rxCap - 5) / 2)

/-- DESIGN CHOICE (log entry 1), safe: an unknown number that fixes `MAX_COUNT`. -/
opaque rawMaxCount : Nat

/-- DESIGN CHOICE (log entry 1), safe: an unknown number that fixes `RX_CAP`. -/
opaque rawRxCap : Nat

/-- DESIGN CHOICE (log entry 1), safe: an unknown number that fixes `LAYOUT_SLOTS`. -/
opaque rawLayoutSlots : Nat

/-- `MAX_COUNT` of the machine after reset: any number the constraints of 00_scope.md R6 allow, 1 to 32765. -/
def instanceMaxCount : Nat := rawMaxCount % 32765 + 1

/-- The parameters of the machine after reset: each unknown number is folded into the range 00_scope.md R6
allows, so that every permitted triple, and no other, is one of its possible values. -/
def params : Params where
  maxCount := instanceMaxCount
  rxCap := rawRxCap % (65531 - 2 * instanceMaxCount) + 2 * instanceMaxCount + 5
  layoutSlots := rawLayoutSlots % 32 + 1

end Sys2Proof.Config
end

