-- ==== Sys2Proof/Word.lean ====
section
/-! DEFINITION. The widths of the spec (00_scope.md R7, 30_encoding.md R90) as names for bit vectors. -/

namespace Sys2Proof

/-- One frame byte: an element of `rx` or `tx` (00_scope.md R7). -/
abbrev Byte := BitVec 8

/-- A 16-bit unsigned value: a working register, a map entry, a reading (00_scope.md R7). -/
abbrev Half := BitVec 16

/-- A 32-bit host data word (00_scope.md R7). -/
abbrev Word := BitVec 32

/-- A 12-bit byte address of the host window (20_memory.md R60). -/
abbrev Addr := BitVec 12

/-- A 47-bit transaction word (30_encoding.md R90). -/
abbrev Trans := BitVec 47

end Sys2Proof
end

