-- ==== Sys2Proof/Syntax.lean ====
section
/-! DEFINITION. The operations of spec/opcode_table.json as syntax, one constructor per row. -/

namespace Sys2Proof

/-- The host operations of 30_encoding.md R92: commands, register writes and register reads. A write keeps the
whole `DATA` word, the bits its register ignores too; a read has no `DATA` operand, since R90 says the block
ignores it. A slot number is the field `ADDR[6:2]` of 20_memory.md R62. -/
inductive Instr where
  /-- NOP, 44_control.md R230. -/
  | nop
  /-- CRC_INIT, 40_crc.md R124. -/
  | crcInit
  /-- CRC_BYTE, 40_crc.md R125. -/
  | crcByte
  /-- CRC_CHECK_RX, 40_crc.md R126. -/
  | crcCheckRx
  /-- BUILD_REQ, 41_frame_build.md R151. -/
  | buildReq
  /-- RX_CLEAR, 42_frame_parse.md R171. -/
  | rxClear
  /-- DECODE, 42_frame_parse.md R180. -/
  | decode
  /-- FIELD, 43_register_extract.md R201. -/
  | field
  /-- LAYOUT_CHECK, 43_register_extract.md R208. -/
  | layoutCheck
  /-- EXTRACT, 43_register_extract.md R209. -/
  | extract
  /-- CLR_STICKY, 44_control.md R231. -/
  | clrSticky
  /-- ILLEGAL_CMD, 44_control.md R233: a CMD write whose word `data` is no command of R95. -/
  | illegalCmd (data : Word)
  /-- RD_STATUS, 44_control.md R234. -/
  | rdStatus
  /-- RD_CRC, 40_crc.md R127. -/
  | rdCrc
  /-- WR_CRC, 40_crc.md R128. -/
  | wrCrc (data : Word)
  /-- RD_ARG0, 41_frame_build.md R153. -/
  | rdArg0
  /-- WR_ARG0, 41_frame_build.md R154. -/
  | wrArg0 (data : Word)
  /-- RD_ARG1, 41_frame_build.md R155. -/
  | rdArg1
  /-- WR_ARG1, 41_frame_build.md R156. -/
  | wrArg1 (data : Word)
  /-- RD_RESULT, 43_register_extract.md R202. -/
  | rdResult
  /-- RD_RX_LEN, 42_frame_parse.md R173. -/
  | rdRxLen
  /-- WR_RX_DATA, 42_frame_parse.md R172. -/
  | wrRxData (data : Word)
  /-- RD_MAP_COUNT, 42_frame_parse.md R184. -/
  | rdMapCount
  /-- RD_PARAM0, 44_control.md R235. -/
  | rdParam0
  /-- RD_PARAM1, 44_control.md R236. -/
  | rdParam1
  /-- RD_TX_W0, 41_frame_build.md R152. -/
  | rdTxW0
  /-- RD_TX_W1, 41_frame_build.md R152. -/
  | rdTxW1
  /-- RD_LAYOUT of slot `k`, 43_register_extract.md R206. -/
  | rdLayout (k : Fin 32)
  /-- WR_LAYOUT of slot `k`, 43_register_extract.md R207. -/
  | wrLayout (k : Fin 32) (data : Word)
  /-- RD_READING of slot `k`, 43_register_extract.md R210. -/
  | rdReading (k : Fin 32)
  deriving DecidableEq, Repr

/-- The three classes of 30_encoding.md R92. -/
inductive InstrClass where
  | command
  | registerWrite
  | registerRead
  deriving DecidableEq, Repr

/-- The class of each operation (30_encoding.md R92, the table's "format"). -/
def Instr.cls : Instr → InstrClass
  | .nop => .command
  | .crcInit => .command
  | .crcByte => .command
  | .crcCheckRx => .command
  | .buildReq => .command
  | .rxClear => .command
  | .decode => .command
  | .field => .command
  | .layoutCheck => .command
  | .extract => .command
  | .clrSticky => .command
  | .illegalCmd _ => .command
  | .rdStatus => .registerRead
  | .rdCrc => .registerRead
  | .wrCrc _ => .registerWrite
  | .rdArg0 => .registerRead
  | .wrArg0 _ => .registerWrite
  | .rdArg1 => .registerRead
  | .wrArg1 _ => .registerWrite
  | .rdResult => .registerRead
  | .rdRxLen => .registerRead
  | .wrRxData _ => .registerWrite
  | .rdMapCount => .registerRead
  | .rdParam0 => .registerRead
  | .rdParam1 => .registerRead
  | .rdTxW0 => .registerRead
  | .rdTxW1 => .registerRead
  | .rdLayout _ => .registerRead
  | .wrLayout _ _ => .registerWrite
  | .rdReading _ => .registerRead

end Sys2Proof
end

