-- ==== Sys2Proof/Decode.lean ====
section
/-! DEFINITION. The transaction word of 30_encoding.md R90, its total decoder (R93) with the address map of
20_memory.md R61 and R62, and the encoder written from the same tables. -/

namespace Sys2Proof

/-- `W`, bit 46 of a transaction word (30_encoding.md R90): write. -/
def transW (t : Trans) : Bool := t.getLsbD 46

/-- `SZ`, bits 45:44 of a transaction word (30_encoding.md R90). -/
def transSz (t : Trans) : BitVec 2 := t.extractLsb' 44 2

/-- `ADDR`, bits 43:32 of a transaction word (30_encoding.md R90). -/
def transAddr (t : Trans) : Addr := t.extractLsb' 32 12

/-- `DATA`, bits 31:0 of a transaction word (30_encoding.md R90). -/
def transData (t : Trans) : Word := t.extractLsb' 0 32

/-- `SZ = 10`, the only size accepted (30_encoding.md R91). -/
def szWord : BitVec 2 := 0b10#2

/-- The block registers of 20_memory.md R61. -/
inductive Reg where
  | cmd
  | status
  | crc
  | arg0
  | arg1
  | result
  | rxLen
  | rxData
  | mapCount
  | param0
  | param1
  | txW0
  | txW1
  | layout (k : Fin 32)
  | reading (k : Fin 32)
  deriving DecidableEq, Repr

/-- The conditions of 20_memory.md R66 under which the decoder rejects a word; each is the same bus error
(60_exceptions.md R253), so the name only says why. -/
inductive BusErrorCause where
  /-- (a) `SZ != 10`. -/
  | size
  /-- (b) `ADDR[1:0] != 00`. -/
  | misaligned
  /-- (c) `ADDR` is unmapped. -/
  | unmapped
  /-- (d) the direction is not permitted at `ADDR`. -/
  | direction
  deriving DecidableEq, Repr

/-- The slot number `ADDR[6:2]` of an address in a slot window (20_memory.md R62). -/
def slotOf (a : Addr) : Fin 32 := ⟨(a.extractLsb' 2 5).toNat, (a.extractLsb' 2 5).isLt⟩

/-- The register at a word-aligned address, if the address is mapped (20_memory.md R61, R62). -/
def regAt (p : Config.Params) (a : Addr) : Option Reg :=
  match a.toNat with
  | 0x000 => some .cmd
  | 0x004 => some .status
  | 0x008 => some .crc
  | 0x00C => some .arg0
  | 0x010 => some .arg1
  | 0x014 => some .result
  | 0x018 => some .rxLen
  | 0x01C => some .rxData
  | 0x020 => some .mapCount
  | 0x024 => some .param0
  | 0x028 => some .param1
  | 0x040 => some .txW0
  | 0x044 => some .txW1
  | n =>
    if 0x080 ≤ n ∧ n ≤ 0x0FC then
      if (slotOf a).val < p.layoutSlots then some (.layout (slotOf a)) else none
    else if 0x100 ≤ n ∧ n ≤ 0x17C then
      if (slotOf a).val < p.layoutSlots then some (.reading (slotOf a)) else none
    else none

/-- The register read at a register, where the map of 20_memory.md R61 permits one (30_encoding.md R93 step 5). -/
def readOf : Reg → Option Instr
  | .cmd => none
  | .status => some .rdStatus
  | .crc => some .rdCrc
  | .arg0 => some .rdArg0
  | .arg1 => some .rdArg1
  | .result => some .rdResult
  | .rxLen => some .rdRxLen
  | .rxData => none
  | .mapCount => some .rdMapCount
  | .param0 => some .rdParam0
  | .param1 => some .rdParam1
  | .txW0 => some .rdTxW0
  | .txW1 => some .rdTxW1
  | .layout k => some (.rdLayout k)
  | .reading k => some (.rdReading k)

/-- The command of an OPCODE, for the opcodes of 30_encoding.md R95 that are not reserved. -/
def commandOfOpcode (op : Byte) : Option Instr :=
  match op.toNat with
  | 0x00 => some .nop
  | 0x01 => some .crcInit
  | 0x02 => some .crcByte
  | 0x03 => some .crcCheckRx
  | 0x04 => some .buildReq
  | 0x05 => some .rxClear
  | 0x06 => some .decode
  | 0x07 => some .field
  | 0x08 => some .layoutCheck
  | 0x09 => some .extract
  | 0x0A => some .clrSticky
  | _ => none

/-- The command selected by a command word (30_encoding.md R93 step 7, R94; 44_control.md R237). -/
def commandOf (data : Word) : Instr :=
  if data.extractLsb' 8 24 = 0#24 then (commandOfOpcode (data.extractLsb' 0 8)).getD (.illegalCmd data)
  else .illegalCmd data

/-- The register write or command at a register, where the map of 20_memory.md R61 permits a write
(30_encoding.md R93 steps 6 and 7). -/
def writeOf : Reg → Word → Option Instr
  | .cmd, data => some (commandOf data)
  | .status, _ => none
  | .crc, data => some (.wrCrc data)
  | .arg0, data => some (.wrArg0 data)
  | .arg1, data => some (.wrArg1 data)
  | .result, _ => none
  | .rxLen, _ => none
  | .rxData, data => some (.wrRxData data)
  | .mapCount, _ => none
  | .param0, _ => none
  | .param1, _ => none
  | .txW0, _ => none
  | .txW1, _ => none
  | .layout k, data => some (.wrLayout k data)
  | .reading _, _ => none

/-- The decoder of 30_encoding.md R93: total on the 47-bit words, in the rule's order. -/
def decodeWord (p : Config.Params) (t : Trans) : Except BusErrorCause Instr :=
  if transSz t ≠ szWord then .error .size
  else if (transAddr t).extractLsb' 0 2 ≠ 0#2 then .error .misaligned
  else match regAt p (transAddr t) with
    | none => .error .unmapped
    | some r =>
      match if transW t then writeOf r (transData t) else readOf r with
      | none => .error .direction
      | some i => .ok i

/-- A 32-bit transaction word from its fields (30_encoding.md R90). -/
def mkTrans (w : Bool) (a : Addr) (data : Word) : Trans := BitVec.ofBool w ++ szWord ++ a ++ data

/-- The address of LAYOUT[k], `0x080 + 4*k` (20_memory.md R61). -/
def layoutAddr (k : Fin 32) : Addr := BitVec.ofNat 12 (0x080 + 4 * k.val)

/-- The address of READING[k], `0x100 + 4*k` (20_memory.md R61). -/
def readingAddr (k : Fin 32) : Addr := BitVec.ofNat 12 (0x100 + 4 * k.val)

/-- The word of a command, `0x6000000000OO` (30_encoding.md R100). -/
def encodeCommand (opcode : Word) : Trans := mkTrans true 0x000#12 opcode

/-- The word of an operation (30_encoding.md R90, R94, R95; a read's `DATA` is written 0). -/
def encode : Instr → Trans
  | .nop => encodeCommand 0x00#32
  | .crcInit => encodeCommand 0x01#32
  | .crcByte => encodeCommand 0x02#32
  | .crcCheckRx => encodeCommand 0x03#32
  | .buildReq => encodeCommand 0x04#32
  | .rxClear => encodeCommand 0x05#32
  | .decode => encodeCommand 0x06#32
  | .field => encodeCommand 0x07#32
  | .layoutCheck => encodeCommand 0x08#32
  | .extract => encodeCommand 0x09#32
  | .clrSticky => encodeCommand 0x0A#32
  | .illegalCmd data => encodeCommand data
  | .rdStatus => mkTrans false 0x004#12 0#32
  | .rdCrc => mkTrans false 0x008#12 0#32
  | .wrCrc data => mkTrans true 0x008#12 data
  | .rdArg0 => mkTrans false 0x00C#12 0#32
  | .wrArg0 data => mkTrans true 0x00C#12 data
  | .rdArg1 => mkTrans false 0x010#12 0#32
  | .wrArg1 data => mkTrans true 0x010#12 data
  | .rdResult => mkTrans false 0x014#12 0#32
  | .rdRxLen => mkTrans false 0x018#12 0#32
  | .wrRxData data => mkTrans true 0x01C#12 data
  | .rdMapCount => mkTrans false 0x020#12 0#32
  | .rdParam0 => mkTrans false 0x024#12 0#32
  | .rdParam1 => mkTrans false 0x028#12 0#32
  | .rdTxW0 => mkTrans false 0x040#12 0#32
  | .rdTxW1 => mkTrans false 0x044#12 0#32
  | .rdLayout k => mkTrans false (layoutAddr k) 0#32
  | .wrLayout k data => mkTrans true (layoutAddr k) data
  | .rdReading k => mkTrans false (readingAddr k) 0#32

/-- What the decoder reads from a word numbered as spec/opcode_table.json numbers it, under the parameters of
the machine after reset. Bit 47 of the 12 printed hex digits is always 0 (30_encoding.md R90), so a number of
2^47 or more is no transaction word (log entry 12). -/
def decodeTableWord (nbits w : Nat) : Option Instr :=
  let v := w % 2 ^ nbits
  if v < 2 ^ 47 then
    match decodeWord Config.params (BitVec.ofNat 47 v) with
    | .ok i => some i
    | .error _ => none
  else none

end Sys2Proof
end

