-- ==== Sys2Proof/Machine/State.lean ====
section
/-! DEFINITION. The state: the block's record (10_state.md R20), the parameters it was built with
(00_scope.md R6) and the host's side of the port (00_scope.md R8), the reasons a step can stop, and reset
(70_reset_and_hazards.md R280). -/

namespace Sys2Proof.Machine

/-- The result codes of 10_state.md R32. Codes 5 to 15 are never produced, so they have no constructor
(log entry 10). -/
inductive ErrCode where
  /-- 0, OK. -/
  | ok
  /-- 1, MALFORMED. -/
  | malformed
  /-- 2, INDEX_OUT_OF_RANGE. -/
  | indexOutOfRange
  /-- 3, BAD_PARAM. -/
  | badParam
  /-- 4, ILLEGAL_CMD. -/
  | illegalCmd
  deriving DecidableEq, Repr

/-- The cause bits of 10_state.md R31: which check of the last command failed. -/
structure Cause where
  /-- C_LEN. -/
  len : Bool
  /-- C_CRC. -/
  crc : Bool
  /-- C_BC. -/
  bc : Bool
  /-- C_OVF. -/
  ovf : Bool
  deriving DecidableEq, Repr

/-- Cause bits `0000`. -/
def Cause.clear : Cause := { len := false, crc := false, bc := false, ovf := false }

/-- One slot of the layout table (10_state.md R29). -/
structure Slot where
  valid : Bool
  reserved : Bool
  nameId : BitVec 8
  index : Half
  deriving DecidableEq, Repr

/-- A slot at its reset value, every field 0 (10_state.md R29). -/
def Slot.empty : Slot := { valid := false, reserved := false, nameId := 0x00#8, index := 0x0000#16 }

/-- The block state of 10_state.md R20, component by component. `layout` and `reading` have room for the 32
slots 00_scope.md R6 allows; those at `LAYOUT_SLOTS` and above do not exist, and no operation reads or writes
them (log entry 5). -/
structure Block where
  crc : Half
  arg0 : Half
  arg1 : Half
  result : Half
  tx : Vector Byte 8
  txValid : Bool
  rx : List Byte
  rxOvf : Bool
  map : List Half
  mapValid : Bool
  layout : Vector Slot 32
  reading : Vector (Option Half) 32
  rdValid : Bool
  err : ErrCode
  cause : Cause
  crcMatch : Bool
  sticky : BitVec 5
  deriving DecidableEq, Repr

/-- The reset state of every component, 70_reset_and_hazards.md R280. -/
def Block.reset : Block where
  crc := 0xFFFF#16
  arg0 := 0x0000#16
  arg1 := 0x0000#16
  result := 0x0000#16
  tx := Vector.replicate 8 0x00#8
  txValid := false
  rx := []
  rxOvf := false
  map := []
  mapValid := false
  layout := Vector.replicate 32 Slot.empty
  reading := Vector.replicate 32 none
  rdValid := false
  err := .ok
  cause := Cause.clear
  crcMatch := false
  sticky := 0b00000#5

/-- What the host does next on the block's inputs: a transaction on the port (30_encoding.md R90), or an
assertion of the reset input (70_reset_and_hazards.md R281). -/
inductive HostEvent where
  | transaction (t : Trans)
  | reset
  deriving DecidableEq, Repr

/-- The host's side of the port, DESIGN CHOICE (log entries 2 and 3): 10_state.md R39 says the host, not the
block, holds the program and its position. -/
structure HostPort where
  /-- What the host still does, the next first. -/
  program : List HostEvent
  /-- The word the last transaction returned; `none` where it returned none (a write). -/
  response : Option Word
  deriving DecidableEq, Repr

/-- The machine's state. -/
structure State where
  /-- The implementation parameters, which no step changes (10_state.md R20; log entry 1). -/
  cfg : Config.Params
  /-- The block state. -/
  block : Block
  /-- The host's side of the port. -/
  port : HostPort
  deriving DecidableEq, Repr

/-- The machine after reset: the block as 70_reset_and_hazards.md R280 says, the parameters unknown
(log entry 1), nothing yet sent by the host (log entry 2). -/
def State.reset : State where
  cfg := Config.params
  block := Block.reset
  port := { program := [], response := none }

/-- Why a step can stop with a fault. -/
inductive Fault where
  /-- The bus error of 20_memory.md R66 with the transaction's `W`, `SZ` and `ADDR` (60_exceptions.md R252),
  raised by `step` on a word the decoder rejects and by the three slot operations on a slot that does not
  exist. Safe: the block goes on unchanged where the model stops, so a claim can only become unprovable. -/
  | busError (w : Bool) (sz : BitVec 2) (addr : Addr)
  deriving DecidableEq, Repr

/-- Why a step can be refused. -/
inductive Refusal where
  /-- Raised only by an arm of `exec` whose operation has no meaning yet; there is none. Safe. -/
  | notModelled (mnemonic : String)
  deriving DecidableEq, Repr

end Sys2Proof.Machine
end

