-- ==== Sys2Proof/Machine/Flags.lean ====
section
/-! DEFINITION. The status fields: the codes of 10_state.md R32, the sticky bits of R33 and the STATUS word of
R31. -/

namespace Sys2Proof.Machine

/-- The ERR code of a result (10_state.md R32). -/
def ErrCode.code : ErrCode → BitVec 4
  | .ok => 0#4
  | .malformed => 1#4
  | .indexOutOfRange => 2#4
  | .badParam => 3#4
  | .illegalCmd => 4#4

/-- The sticky bit `e - 1` a result sets, none for OK (10_state.md R33). -/
def ErrCode.stickyBit : ErrCode → BitVec 5
  | .ok => 0b00000#5
  | .malformed => 0b00001#5
  | .indexOutOfRange => 0b00010#5
  | .badParam => 0b00100#5
  | .illegalCmd => 0b01000#5

/-- Sticky bit 4, an RX overflow (10_state.md R33). -/
def stickyRxOverflow : BitVec 5 := 0b10000#5

/-- The cause bits as STATUS[7:4], in the order `{ovf, bc, crc, len}` (10_state.md R31). -/
def Cause.bits (c : Cause) : BitVec 4 :=
  BitVec.ofBool c.ovf ++ BitVec.ofBool c.bc ++ BitVec.ofBool c.crc ++ BitVec.ofBool c.len

/-- The STATUS word (10_state.md R31, 44_control.md R234), its most significant field first. -/
def statusWord (b : Block) : Word :=
  0#11 ++ b.sticky ++ 0#3 ++ BitVec.ofBool b.rxOvf ++ BitVec.ofBool b.rdValid ++ BitVec.ofBool b.mapValid ++
    BitVec.ofBool b.txValid ++ BitVec.ofBool b.crcMatch ++ b.cause.bits ++ b.err.code

end Sys2Proof.Machine
end

