-- ==== Sys2Proof/Machine/Operands.lean ====
section
/-! DEFINITION. Operand forms: the fields a register write takes of `DATA` (30_encoding.md R96), the operands a
command takes of the working registers (R97), the byte orders of 20_memory.md R68 and R69, and the word formats
of the window (10_state.md R34 to R38). -/

namespace Sys2Proof.Machine

/-- The more significant byte of a 16-bit value. -/
def hiByte (v : Half) : Byte := v.extractLsb' 8 8

/-- The less significant byte of a 16-bit value. -/
def loByte (v : Half) : Byte := v.extractLsb' 0 8

/-- `be16(hi, lo)` of 00_scope.md R10. -/
def be16 (hi lo : Byte) : Half := hi ++ lo

/-- `le16(lo, hi)` of 00_scope.md R10. -/
def le16 (lo hi : Byte) : Half := hi ++ lo

/-- `DATA[15:0]`, what CRC, ARG0 and ARG1 take (30_encoding.md R96). -/
def dataHalf (data : Word) : Half := data.extractLsb' 0 16

/-- `DATA[7:0]`, what RX_DATA takes (30_encoding.md R96). -/
def dataByte (data : Word) : Byte := data.extractLsb' 0 8

/-- What LAYOUT[k] takes (30_encoding.md R96, 10_state.md R35): `DATA[31]`, `DATA[30]`, `DATA[23:16]`, `DATA[15:0]`. -/
def dataSlot (data : Word) : Slot where
  valid := data.getLsbD 31
  reserved := data.getLsbD 30
  nameId := data.extractLsb' 16 8
  index := data.extractLsb' 0 16

/-- `arg0[7:0]`, CRC_BYTE's byte (30_encoding.md R97). -/
def Block.crcOperand (b : Block) : Byte := b.arg0.extractLsb' 0 8

/-- `startOffset` of BUILD_REQ (30_encoding.md R97). -/
def Block.startOffset (b : Block) : Half := b.arg0

/-- `count` of BUILD_REQ (30_encoding.md R97). -/
def Block.count (b : Block) : Half := b.arg1

/-- `expectedCount` of DECODE, an unbounded natural (30_encoding.md R97, 00_scope.md R11). -/
def Block.expectedCount (b : Block) : Nat := b.arg1.toNat

/-- `relativeIndex` of FIELD (30_encoding.md R97, 00_scope.md R11). -/
def Block.relativeIndex (b : Block) : Nat := b.arg0.toNat

/-- The window count of LAYOUT_CHECK (30_encoding.md R97, 00_scope.md R11). -/
def Block.windowCount (b : Block) : Nat := b.arg1.toNat

/-- A slot is active when it is valid and not reserved (43_register_extract.md R204). -/
def Slot.active (l : Slot) : Bool := l.valid && !l.reserved

/-- `zext_32` of a 16-bit register (10_state.md R38). -/
def zextWord (v : Half) : Word := v.zeroExtend 32

/-- The length of a buffer as a word, RX_LEN and MAP_COUNT (10_state.md R38). -/
def lengthWord (n : Nat) : Word := BitVec.ofNat 32 n

/-- PARAM0, `{RX_CAP[15:0], MAX_COUNT[15:0]}` (10_state.md R34). -/
def param0Word (p : Config.Params) : Word := BitVec.ofNat 16 p.rxCap ++ BitVec.ofNat 16 p.maxCount

/-- PARAM1, `LAYOUT_SLOTS` in bits 5:0 (10_state.md R34). -/
def param1Word (p : Config.Params) : Word := 0#26 ++ BitVec.ofNat 6 p.layoutSlots

/-- TX_W0, `{tx[3], tx[2], tx[1], tx[0]}` (10_state.md R37). -/
def txWord0 (tx : Vector Byte 8) : Word := tx[3] ++ tx[2] ++ tx[1] ++ tx[0]

/-- TX_W1, `{tx[7], tx[6], tx[5], tx[4]}` (10_state.md R37). -/
def txWord1 (tx : Vector Byte 8) : Word := tx[7] ++ tx[6] ++ tx[5] ++ tx[4]

/-- A LAYOUT word (10_state.md R35): VALID, RESERVED, six bits 0, NAME_ID, INDEX. -/
def slotWord (l : Slot) : Word :=
  BitVec.ofBool l.valid ++ BitVec.ofBool l.reserved ++ 0#6 ++ l.nameId ++ l.index

/-- A READING word (10_state.md R36): PRESENT, seven bits 0, NAME_ID, VALUE; all 0 when the reading is none. -/
def readingWord (nameId : BitVec 8) : Option Half → Word
  | none => 0x00000000#32
  | some v => 1#1 ++ 0#7 ++ nameId ++ v

end Sys2Proof.Machine
end

