-- ==== Sys2Proof/Machine/Ops.lean ====
section
/-! DEFINITION. The named operations on the state: the writes of each component of the block, the status update
every command performs (44_control.md R232, which stands where a processor takes an exception: the block has no
trap entry or return, 60_exceptions.md R254, R255), and the outcomes of a transaction. -/

namespace Sys2Proof.Machine

/-- `s.crc <- v`. -/
def Block.setCrc (b : Block) (v : Half) : Block := { b with crc := v }

/-- `s.arg0 <- v`. -/
def Block.setArg0 (b : Block) (v : Half) : Block := { b with arg0 := v }

/-- `s.arg1 <- v`. -/
def Block.setArg1 (b : Block) (v : Half) : Block := { b with arg1 := v }

/-- `s.result <- v`. -/
def Block.setResult (b : Block) (v : Half) : Block := { b with result := v }

/-- `s.tx <- v`. -/
def Block.setTx (b : Block) (v : Vector Byte 8) : Block := { b with tx := v }

/-- `s.tx_valid <- v`. -/
def Block.setTxValid (b : Block) (v : Bool) : Block := { b with txValid := v }

/-- `s.rx <- v`. -/
def Block.setRx (b : Block) (v : List Byte) : Block := { b with rx := v }

/-- `s.rx_ovf <- v`. -/
def Block.setRxOvf (b : Block) (v : Bool) : Block := { b with rxOvf := v }

/-- `s.map <- m ; s.map_valid <- v`. -/
def Block.setMap (b : Block) (m : List Half) (v : Bool) : Block := { b with map := m, mapValid := v }

/-- `s.layout[k] <- l`. -/
def Block.setSlot (b : Block) (k : Fin 32) (l : Slot) : Block := { b with layout := b.layout.set k l }

/-- `s.reading[k] <- r[k] for every k ; s.rd_valid <- v`. -/
def Block.setReadings (b : Block) (r : Vector (Option Half) 32) (v : Bool) : Block :=
  { b with reading := r, rdValid := v }

/-- Every reading none. -/
def noReadings : Vector (Option Half) 32 := Vector.replicate 32 none

/-- `s.crc_match <- v`. -/
def Block.setCrcMatch (b : Block) (v : Bool) : Block := { b with crcMatch := v }

/-- `s.sticky <- v`. -/
def Block.setSticky (b : Block) (v : BitVec 5) : Block := { b with sticky := v }

/-- `setErr(e, cause)`, 44_control.md R232: the cause is kept only with MALFORMED, and any code but OK sets
its sticky bit (10_state.md R33). -/
def Block.setErr (b : Block) (e : ErrCode) (c : Cause := Cause.clear) : Block :=
  { b with
    err := e
    cause := if e = .malformed then c else Cause.clear
    sticky := b.sticky ||| e.stickyBit }

/-- A transaction that changes the block and returns no data: a command or a register write (20_memory.md R66). -/
def State.write (s : State) (b : Block) : Host.Outcome State Fault Refusal := .next { s with block := b }

/-- A register read: it returns a word and leaves the block as it was (20_memory.md R66, R71). -/
def State.read (s : State) (w : Word) : Host.Outcome State Fault Refusal :=
  .next { s with port := { s.port with response := some w } }

/-- A bus error with the transaction's `W`, `SZ` and `ADDR` (20_memory.md R66, 60_exceptions.md R252). -/
def busFault (w : Bool) (sz : BitVec 2) (a : Addr) : Host.Outcome State Fault Refusal := .fault (.busError w sz a)

/-- The bus error of a rejected transaction word. -/
def busFaultOf (t : Trans) : Host.Outcome State Fault Refusal := busFault (transW t) (transSz t) (transAddr t)

/-- The port takes a transaction: the host's program moves on and the port holds no response yet
(log entry 3). -/
def State.accept (s : State) (rest : List HostEvent) : State :=
  { s with port := { program := rest, response := none } }

/-- The reset input is asserted and released (70_reset_and_hazards.md R281): the block is as R280 says; the
parameters and what the host does next are no part of the block. -/
def State.resetInput (s : State) (rest : List HostEvent) : State :=
  { s with block := Block.reset, port := { program := rest, response := none } }

/-- The host's program with the transaction of the table's number `w` put first (30_encoding.md R90). -/
def State.withTransaction (s : State) (nbits w : Nat) : State :=
  { s with port := { s.port with program := .transaction (BitVec.ofNat 47 (w % 2 ^ nbits)) :: s.port.program } }

end Sys2Proof.Machine
end

