-- ==== Sys2Proof/Machine/Control.lean ====
section
/-! DEFINITION. Status, parameters and the commands about them, 44_control.md R230 to R236. -/

namespace Sys2Proof.Machine

/-- CLR_STICKY, 44_control.md R231. -/
def clrSticky (b : Block) : Block := (b.setSticky 0b00000#5).setErr .ok

/-- The meaning of NOP, 44_control.md R230. -/
def execNop (s : State) : Host.Outcome State Fault Refusal := s.write (s.block.setErr .ok)

/-- The meaning of CLR_STICKY, 44_control.md R231. -/
def execClrSticky (s : State) : Host.Outcome State Fault Refusal := s.write (clrSticky s.block)

/-- The meaning of an illegal command, 44_control.md R233: the same for every word; that the word is no
command is the decoder's affair (WellFormed, log entry 11). -/
def execIllegalCmd (_data : Word) (s : State) : Host.Outcome State Fault Refusal :=
  s.write (s.block.setErr .illegalCmd)

/-- The meaning of RD_STATUS, 44_control.md R234. -/
def execRdStatus (s : State) : Host.Outcome State Fault Refusal := s.read (statusWord s.block)

/-- The meaning of RD_PARAM0, 44_control.md R235. -/
def execRdParam0 (s : State) : Host.Outcome State Fault Refusal := s.read (param0Word s.cfg)

/-- The meaning of RD_PARAM1, 44_control.md R236. -/
def execRdParam1 (s : State) : Host.Outcome State Fault Refusal := s.read (param1Word s.cfg)

end Sys2Proof.Machine
end

