-- ==== Sys2Proof/Machine/CrcUnit.lean ====
section
/-! DEFINITION. The CRC function of 40_crc.md R121 to R123. The bit order and the absence of a final XOR are
the spec's general knowledge, PRESUMED (log entry 7). -/

namespace Sys2Proof.Machine

/-- `CRC_POLY` (00_scope.md R5). -/
def crcPoly : Half := 0xA001#16

/-- `CRC_INIT` (00_scope.md R5). -/
def crcInitValue : Half := 0xFFFF#16

/-- One bit of the loop of 40_crc.md R122. -/
def crcBit (c : Half) : Half := if c.getLsbD 0 then (c >>> 1) ^^^ crcPoly else c >>> 1

/-- `k` bits of that loop. -/
def crcBits : Nat → Half → Half
  | 0, c => c
  | k + 1, c => crcBits k (crcBit c)

/-- `crc_step`, 40_crc.md R122: one byte, least significant bit first. -/
def crcStep (c : Half) (b : Byte) : Half := crcBits 8 (c ^^^ b.zeroExtend 16)

/-- `crc16`, 40_crc.md R121: the left fold of `crc_step` over the bytes in transmission order. -/
def crc16 (init : Half) (bytes : List Byte) : Half := bytes.foldl crcStep init

end Sys2Proof.Machine
end

