-- ==== Sys2Proof/Machine/Crc.lean ====
section
/-! DEFINITION. The CRC family, 40_crc.md R124 to R128. -/

namespace Sys2Proof.Machine

/-- The trailer of a buffer as a CRC value: `le16` of its last two bytes (40_crc.md R123). -/
def trailerCrc (rx : List Byte) : Half := le16 (rx.getD (rx.length - 2) 0#8) (rx.getD (rx.length - 1) 0#8)

/-- The CRC of all but the trailing two bytes (40_crc.md R126, 42_frame_parse.md R181 check (b)). -/
def bodyCrc (rx : List Byte) : Half := crc16 crcInitValue (rx.take (rx.length - 2))

/-- CRC_INIT, 40_crc.md R124. -/
def crcInit (b : Block) : Block := (b.setCrc crcInitValue).setErr .ok

/-- CRC_BYTE, 40_crc.md R125. -/
def crcByte (b : Block) : Block := (b.setCrc (crcStep b.crc b.crcOperand)).setErr .ok

/-- CRC_CHECK_RX, 40_crc.md R126. -/
def crcCheckRx (b : Block) : Block :=
  if b.rx.length < 2 then
    (b.setCrcMatch false).setErr .malformed { len := false, crc := true, bc := false, ovf := b.rxOvf }
  else
    let m := decide (bodyCrc b.rx = trailerCrc b.rx)
    let b' := (b.setCrc (bodyCrc b.rx)).setCrcMatch m
    if m && !b.rxOvf then b'.setErr .ok
    else b'.setErr .malformed { len := false, crc := !m, bc := false, ovf := b.rxOvf }

/-- The meaning of CRC_INIT, 40_crc.md R124. -/
def execCrcInit (s : State) : Host.Outcome State Fault Refusal := s.write (crcInit s.block)

/-- The meaning of CRC_BYTE, 40_crc.md R125. -/
def execCrcByte (s : State) : Host.Outcome State Fault Refusal := s.write (crcByte s.block)

/-- The meaning of CRC_CHECK_RX, 40_crc.md R126. -/
def execCrcCheckRx (s : State) : Host.Outcome State Fault Refusal := s.write (crcCheckRx s.block)

/-- The meaning of RD_CRC, 40_crc.md R127. -/
def execRdCrc (s : State) : Host.Outcome State Fault Refusal := s.read (zextWord s.block.crc)

/-- The meaning of WR_CRC, 40_crc.md R128. -/
def execWrCrc (data : Word) (s : State) : Host.Outcome State Fault Refusal :=
  s.write (s.block.setCrc (dataHalf data))

end Sys2Proof.Machine
end

