-- ==== Sys2Proof/Machine/FrameBuild.lean ====
section
/-! DEFINITION. The request-frame builder and the operand registers, 41_frame_build.md R150 to R156. -/

namespace Sys2Proof.Machine

/-- `UNIT_ID` (00_scope.md R5). -/
def unitId : Byte := 0x01#8

/-- `FC_READ_HOLDING` (00_scope.md R5). -/
def fcReadHolding : Byte := 0x03#8

/-- The CRC of the first six bytes of the request frame (41_frame_build.md R150). -/
def requestCrc (st n : Half) : Half :=
  crc16 0xFFFF#16 [unitId, fcReadHolding, hiByte st, loByte st, hiByte n, loByte n]

/-- The 8-byte read-request frame of 41_frame_build.md R150. -/
def requestFrame (st n : Half) : Vector Byte 8 :=
  #v[unitId, fcReadHolding, hiByte st, loByte st, hiByte n, loByte n,
    loByte (requestCrc st n), hiByte (requestCrc st n)]

/-- BUILD_REQ, 41_frame_build.md R151. -/
def buildReq (p : Config.Params) (b : Block) : Block :=
  if b.count.toNat = 0 ∨ p.maxCount < b.count.toNat then (b.setTxValid false).setErr .badParam
  else ((b.setTx (requestFrame b.startOffset b.count)).setTxValid true).setErr .ok

/-- The meaning of BUILD_REQ, 41_frame_build.md R151. -/
def execBuildReq (s : State) : Host.Outcome State Fault Refusal := s.write (buildReq s.cfg s.block)

/-- The meaning of RD_TX_W0, 41_frame_build.md R152. -/
def execRdTxW0 (s : State) : Host.Outcome State Fault Refusal := s.read (txWord0 s.block.tx)

/-- The meaning of RD_TX_W1, 41_frame_build.md R152. -/
def execRdTxW1 (s : State) : Host.Outcome State Fault Refusal := s.read (txWord1 s.block.tx)

/-- The meaning of RD_ARG0, 41_frame_build.md R153. -/
def execRdArg0 (s : State) : Host.Outcome State Fault Refusal := s.read (zextWord s.block.arg0)

/-- The meaning of WR_ARG0, 41_frame_build.md R154. -/
def execWrArg0 (data : Word) (s : State) : Host.Outcome State Fault Refusal :=
  s.write (s.block.setArg0 (dataHalf data))

/-- The meaning of RD_ARG1, 41_frame_build.md R155. -/
def execRdArg1 (s : State) : Host.Outcome State Fault Refusal := s.read (zextWord s.block.arg1)

/-- The meaning of WR_ARG1, 41_frame_build.md R156. -/
def execWrArg1 (data : Word) (s : State) : Host.Outcome State Fault Refusal :=
  s.write (s.block.setArg1 (dataHalf data))

end Sys2Proof.Machine
end

