-- ==== Sys2Proof/Machine/FrameParse.lean ====
section
/-! DEFINITION. The response buffer and the frame parser, 42_frame_parse.md R170 to R184. -/

namespace Sys2Proof.Machine

/-- Check (a) of 42_frame_parse.md R181, on unbounded naturals (00_scope.md R11). -/
def lenOk (rx : List Byte) (n : Nat) : Bool := decide (3 + 2 * n + 2 ≤ rx.length)

/-- Check (b) of 42_frame_parse.md R181. -/
def crcOk (rx : List Byte) : Bool := decide (2 ≤ rx.length) && decide (bodyCrc rx = trailerCrc rx)

/-- Check (c) of 42_frame_parse.md R181: the byte is compared with `2*n` without truncation. -/
def bcOk (rx : List Byte) (n : Nat) : Bool := decide (3 ≤ rx.length) && decide ((rx.getD 2 0#8).toNat = 2 * n)

/-- The registers of a validated buffer, 42_frame_parse.md R182. -/
def unpackRegisters (rx : List Byte) (n : Nat) : List Half :=
  (List.range n).map fun i => be16 (rx.getD (3 + 2 * i) 0#8) (rx.getD (4 + 2 * i) 0#8)

/-- DECODE, 42_frame_parse.md R180. -/
def decodeResponse (b : Block) : Block :=
  let n := b.expectedCount
  let b' := (b.setCrcMatch (crcOk b.rx)).setReadings noReadings false
  if lenOk b.rx n && crcOk b.rx && bcOk b.rx n && !b.rxOvf then
    (b'.setMap (unpackRegisters b.rx n) true).setErr .ok
  else
    (b'.setMap [] false).setErr .malformed
      { len := !lenOk b.rx n, crc := !crcOk b.rx, bc := !bcOk b.rx n, ovf := b.rxOvf }

/-- RX_CLEAR, 42_frame_parse.md R171. -/
def rxClear (b : Block) : Block := ((b.setRx []).setRxOvf false).setErr .ok

/-- A push into the response buffer, 42_frame_parse.md R172. -/
def rxPush (p : Config.Params) (v : Byte) (b : Block) : Block :=
  if b.rx.length < p.rxCap then b.setRx (b.rx ++ [v])
  else (b.setRxOvf true).setSticky (b.sticky ||| stickyRxOverflow)

/-- The meaning of RX_CLEAR, 42_frame_parse.md R171. -/
def execRxClear (s : State) : Host.Outcome State Fault Refusal := s.write (rxClear s.block)

/-- The meaning of WR_RX_DATA, 42_frame_parse.md R172. -/
def execWrRxData (data : Word) (s : State) : Host.Outcome State Fault Refusal :=
  s.write (rxPush s.cfg (dataByte data) s.block)

/-- The meaning of RD_RX_LEN, 42_frame_parse.md R173. -/
def execRdRxLen (s : State) : Host.Outcome State Fault Refusal := s.read (lengthWord s.block.rx.length)

/-- The meaning of DECODE, 42_frame_parse.md R180. -/
def execDecode (s : State) : Host.Outcome State Fault Refusal := s.write (decodeResponse s.block)

/-- The meaning of RD_MAP_COUNT, 42_frame_parse.md R184. -/
def execRdMapCount (s : State) : Host.Outcome State Fault Refusal := s.read (lengthWord s.block.map.length)

end Sys2Proof.Machine
end

