-- ==== Sys2Proof/Machine/RegisterExtract.lean ====
section
/-! DEFINITION. The register extractor and the layout table, 43_register_extract.md R201 to R210. -/

namespace Sys2Proof.Machine

/-- FIELD, 43_register_extract.md R201. -/
def fieldAt (b : Block) : Block :=
  match b.map[b.relativeIndex]? with
  | some v => (b.setResult v).setErr .ok
  | none => b.setErr .indexOutOfRange

/-- Slot `k` exists and is active (43_register_extract.md R204). -/
def activeSlot (p : Config.Params) (b : Block) (k : Fin 32) : Bool := b.layout[k].active && decide (k.val < p.layoutSlots)

/-- Some active slot's index is at or beyond `c` (43_register_extract.md R208, R209). -/
def slotOutOfRange (p : Config.Params) (b : Block) (c : Nat) : Bool :=
  decide (∃ k : Fin 32, activeSlot p b k = true ∧ c ≤ b.layout[k].index.toNat)

/-- LAYOUT_CHECK, 43_register_extract.md R208. -/
def layoutCheck (p : Config.Params) (b : Block) : Block :=
  if slotOutOfRange p b b.windowCount then b.setErr .indexOutOfRange else b.setErr .ok

/-- The reading set of the map through the layout, 43_register_extract.md R209. -/
def readingsOf (p : Config.Params) (b : Block) : Vector (Option Half) 32 :=
  Vector.ofFn fun k => if activeSlot p b k then b.map[b.layout[k].index.toNat]? else none

/-- EXTRACT, 43_register_extract.md R209. -/
def extractReadings (p : Config.Params) (b : Block) : Block :=
  if !b.mapValid || slotOutOfRange p b b.map.length then
    (b.setReadings noReadings false).setErr .indexOutOfRange
  else (b.setReadings (readingsOf p b) true).setErr .ok

/-- The meaning of FIELD, 43_register_extract.md R201. -/
def execField (s : State) : Host.Outcome State Fault Refusal := s.write (fieldAt s.block)

/-- The meaning of RD_RESULT, 43_register_extract.md R202. -/
def execRdResult (s : State) : Host.Outcome State Fault Refusal := s.read (zextWord s.block.result)

/-- The meaning of RD_LAYOUT, 43_register_extract.md R206: a bus error for a slot that does not exist. -/
def execRdLayout (k : Fin 32) (s : State) : Host.Outcome State Fault Refusal :=
  if k.val < s.cfg.layoutSlots then s.read (slotWord s.block.layout[k])
  else busFault false szWord (layoutAddr k)

/-- The meaning of WR_LAYOUT, 43_register_extract.md R207: a bus error for a slot that does not exist. -/
def execWrLayout (k : Fin 32) (data : Word) (s : State) : Host.Outcome State Fault Refusal :=
  if k.val < s.cfg.layoutSlots then s.write (s.block.setSlot k (dataSlot data))
  else busFault true szWord (layoutAddr k)

/-- The meaning of LAYOUT_CHECK, 43_register_extract.md R208. -/
def execLayoutCheck (s : State) : Host.Outcome State Fault Refusal := s.write (layoutCheck s.cfg s.block)

/-- The meaning of EXTRACT, 43_register_extract.md R209. -/
def execExtract (s : State) : Host.Outcome State Fault Refusal := s.write (extractReadings s.cfg s.block)

/-- The meaning of RD_READING, 43_register_extract.md R210: a bus error for a slot that does not exist. -/
def execRdReading (k : Fin 32) (s : State) : Host.Outcome State Fault Refusal :=
  if k.val < s.cfg.layoutSlots then s.read (readingWord s.block.layout[k].nameId s.block.reading[k])
  else busFault false szWord (readingAddr k)

end Sys2Proof.Machine
end

