-- ==== Sys2Proof/Machine/Dispatch.lean ====
section
/-! DEFINITION. One arm per constructor of Instr, each one call of its meaning. -/

namespace Sys2Proof.Machine

/-- What an operation does to the machine's state. -/
def exec (i : Instr) (s : State) : Host.Outcome State Fault Refusal :=
  match i with
  | .nop => Sys2Proof.Machine.execNop s
  | .crcInit => Sys2Proof.Machine.execCrcInit s
  | .crcByte => Sys2Proof.Machine.execCrcByte s
  | .crcCheckRx => Sys2Proof.Machine.execCrcCheckRx s
  | .buildReq => Sys2Proof.Machine.execBuildReq s
  | .rxClear => Sys2Proof.Machine.execRxClear s
  | .decode => Sys2Proof.Machine.execDecode s
  | .field => Sys2Proof.Machine.execField s
  | .layoutCheck => Sys2Proof.Machine.execLayoutCheck s
  | .extract => Sys2Proof.Machine.execExtract s
  | .clrSticky => Sys2Proof.Machine.execClrSticky s
  | .illegalCmd data => Sys2Proof.Machine.execIllegalCmd data s
  | .rdStatus => Sys2Proof.Machine.execRdStatus s
  | .rdCrc => Sys2Proof.Machine.execRdCrc s
  | .wrCrc data => Sys2Proof.Machine.execWrCrc data s
  | .rdArg0 => Sys2Proof.Machine.execRdArg0 s
  | .wrArg0 data => Sys2Proof.Machine.execWrArg0 data s
  | .rdArg1 => Sys2Proof.Machine.execRdArg1 s
  | .wrArg1 data => Sys2Proof.Machine.execWrArg1 data s
  | .rdResult => Sys2Proof.Machine.execRdResult s
  | .rdRxLen => Sys2Proof.Machine.execRdRxLen s
  | .wrRxData data => Sys2Proof.Machine.execWrRxData data s
  | .rdMapCount => Sys2Proof.Machine.execRdMapCount s
  | .rdParam0 => Sys2Proof.Machine.execRdParam0 s
  | .rdParam1 => Sys2Proof.Machine.execRdParam1 s
  | .rdTxW0 => Sys2Proof.Machine.execRdTxW0 s
  | .rdTxW1 => Sys2Proof.Machine.execRdTxW1 s
  | .rdLayout k => Sys2Proof.Machine.execRdLayout k s
  | .wrLayout k data => Sys2Proof.Machine.execWrLayout k data s
  | .rdReading k => Sys2Proof.Machine.execRdReading k s

end Sys2Proof.Machine
end

