-- ==== Sys2Proof/Machine/Step.lean ====
section
/-! DEFINITION. One step: the host's next event. Each transaction is one step (70_reset_and_hazards.md R285). -/

namespace Sys2Proof.Machine

/-- The host's next event takes place. Where the host sends nothing, nothing changes: the block never steps on
its own (00_scope.md R8; log entry 4). -/
def step (s : State) : Host.Outcome State Fault Refusal :=
  match s.port.program with
  | [] => .next s
  | .reset :: rest => .next (s.resetInput rest)
  | .transaction t :: rest =>
    match decodeWord s.cfg t with
    | .ok i => exec i (s.accept rest)
    | .error _ => busFaultOf t

/-- `s` with the instruction of the table's number `w` as the host's next transaction (log entry 2). -/
def State.withFetchWord (s : State) (nbits w : Nat) : State := s.withTransaction nbits w

end Sys2Proof.Machine
end

