-- ==== Sys2Proof/WellFormed.lean ====
section
/-! DEFINITION. Which terms of Instr stand for a transaction the port accepts: the slot number exists
(20_memory.md R62), and an illegal command's word is no command (44_control.md R233). -/

namespace Sys2Proof

/-- 44_control.md R233: a command word whose bits 31:8 are not all zero, or whose OPCODE is 0x0B to 0xFF. -/
def isIllegalCommandWord (data : Word) : Bool :=
  data.extractLsb' 8 24 != 0#24 || decide (0x0A < (data.extractLsb' 0 8).toNat)

/-- The checks on an operation's operands, under the parameters `p`. -/
def wellFormed (p : Config.Params) : Instr → Bool
  | .illegalCmd data => isIllegalCommandWord data
  | .rdLayout k => decide (k.val < p.layoutSlots)
  | .wrLayout k _ => decide (k.val < p.layoutSlots)
  | .rdReading k => decide (k.val < p.layoutSlots)
  | .nop => true
  | .crcInit => true
  | .crcByte => true
  | .crcCheckRx => true
  | .buildReq => true
  | .rxClear => true
  | .decode => true
  | .field => true
  | .layoutCheck => true
  | .extract => true
  | .clrSticky => true
  | .rdStatus => true
  | .rdCrc => true
  | .wrCrc _ => true
  | .rdArg0 => true
  | .wrArg0 _ => true
  | .rdArg1 => true
  | .wrArg1 _ => true
  | .rdResult => true
  | .rdRxLen => true
  | .wrRxData _ => true
  | .rdMapCount => true
  | .rdParam0 => true
  | .rdParam1 => true
  | .rdTxW0 => true
  | .rdTxW1 => true

/-- The operation stands for a transaction the port accepts under the parameters `p`. -/
abbrev WellFormed (p : Config.Params) (i : Instr) : Prop := wellFormed p i = true

end Sys2Proof
end

