-- ==== Sys2Proof/Safety.lean ====
section
/-! DEFINITION. The terms claims are made in: the address map and the bus-error condition said by numbers, apart
from the decoder (20_memory.md R61, R66), and the invariants of the block (10_state.md R42, and those its other
rules imply). -/

namespace Sys2Proof.Safety

open Sys2Proof.Machine

/-- The transaction word decodes to the operation, whatever the parameters are. -/
abbrev WordOf (t : Trans) (i : Instr) : Prop := ∀ p : Config.Params, decodeWord p t = .ok i

/-- The word `t` of a register read, with any `DATA` (30_encoding.md R90). -/
abbrev ReadWord (t : Trans) (i : Instr) : Prop := ∀ d : Word, WordOf (t ||| d.zeroExtend 47) i

/-- The word `t` of a register write, with any `DATA`, which the operation takes (30_encoding.md R90). -/
abbrev WriteWord (t : Trans) (f : Word → Instr) : Prop := ∀ d : Word, WordOf (t ||| d.zeroExtend 47) (f d)

/-- The word `t` of slot 0 of a window, with any existing slot's number in `ADDR[6:2]` and any `DATA`
(20_memory.md R62). -/
abbrev SlotWord (t : Trans) (f : Fin 32 → Word → Instr) : Prop :=
  ∀ (p : Config.Params) (k : Fin 32) (d : Word), k.val < p.layoutSlots →
    decodeWord p (t ||| BitVec.ofNat 47 k.val <<< 34 ||| d.zeroExtend 47) = .ok (f k d)

/-- The LAYOUT addresses of 20_memory.md R61. -/
abbrev LayoutAddress (p : Config.Params) (a : Nat) : Prop := 0x080 ≤ a ∧ a < 0x080 + 4 * p.layoutSlots ∧ a % 4 = 0

/-- The READING addresses of 20_memory.md R61. -/
abbrev ReadingAddress (p : Config.Params) (a : Nat) : Prop := 0x100 ≤ a ∧ a < 0x100 + 4 * p.layoutSlots ∧ a % 4 = 0

/-- The addresses at which 20_memory.md R61 permits a read. -/
abbrev Readable (p : Config.Params) (a : Nat) : Prop :=
  a ∈ [0x004, 0x008, 0x00C, 0x010, 0x014, 0x018, 0x020, 0x024, 0x028, 0x040, 0x044] ∨
    LayoutAddress p a ∨ ReadingAddress p a

/-- The addresses at which 20_memory.md R61 permits a write. -/
abbrev Writable (p : Config.Params) (a : Nat) : Prop :=
  a ∈ [0x000, 0x008, 0x00C, 0x010, 0x01C] ∨ LayoutAddress p a

/-- The four conditions of 20_memory.md R66 on a transaction's `W`, `SZ` and `ADDR`. -/
abbrev BusErrorCond (p : Config.Params) (w : Bool) (sz : BitVec 2) (addr : Addr) : Prop :=
  sz ≠ 0b10#2 ∨ addr.extractLsb' 0 2 ≠ 0b00#2 ∨ ¬ (Readable p addr.toNat ∨ Writable p addr.toNat) ∨
    (w = false ∧ ¬ Readable p addr.toNat) ∨ (w = true ∧ ¬ Writable p addr.toNat)

/-- The host's event is no bus error: the premise 60_exceptions.md R252 asks of a claim about a host program. -/
def Accepted (p : Config.Params) : HostEvent → Prop
  | .reset => True
  | .transaction t => ¬ BusErrorCond p (transW t) (transSz t) (transAddr t)

/-- The invariants of 10_state.md R42 (a) to (e); (f) holds by the type of `err` (log entry 10). -/
structure BlockInv (p : Config.Params) (b : Block) : Prop where
  rx_within_cap : b.rx.length ≤ p.rxCap
  no_map_unless_valid : b.mapValid = false → b.map = []
  map_within_cap : b.map.length ≤ p.mapCap
  no_reading_unless_valid : b.rdValid = false → ∀ k : Fin 32, b.reading[k] = none
  cause_only_malformed : b.err = .malformed ∨ b.cause = Cause.clear

/-- The parameters meet 00_scope.md R6 and the block meets 10_state.md R42. -/
structure StateInv (s : State) : Prop where
  cfg_ok : s.cfg.Ok
  block_inv : BlockInv s.cfg s.block

/-- What the components say of each other beyond 10_state.md R42: a valid request frame is one BUILD_REQ makes
(R26), the overflow bit tells of a full buffer (R27), readings belong to a valid map and hold its values (R30),
the last error is in the history (R33), and slots that do not exist stay at reset (log entry 5). -/
structure Coherent (p : Config.Params) (b : Block) : Prop where
  tx_is_a_request : b.txValid = true → ∃ st n : Half, 1 ≤ n.toNat ∧ n.toNat ≤ p.maxCount ∧ b.tx = requestFrame st n
  overflow_means_full : b.rxOvf = true → b.rx.length = p.rxCap
  readings_have_a_map : b.rdValid = true → b.mapValid = true
  readings_from_map : ∀ (k : Fin 32) (v : Half), b.reading[k] = some v → v ∈ b.map
  error_is_in_history : b.sticky &&& b.err.stickyBit = b.err.stickyBit
  absent_slots_untouched : ∀ k : Fin 32, p.layoutSlots ≤ k.val → b.layout[k] = Slot.empty ∧ b.reading[k] = none

end Sys2Proof.Safety
end

