-- ==== Sys2Proof/Certificates/Slice0/Obligations.lean ====
section
/-! DEFINITION. What the model claims, one statement each, for every state and every choice of the parameters
(00_scope.md R6) unless a premise says otherwise. A next state is written out as an update of the state before, so
the statement of an effect is the statement of its frame too: what the update does not name is unchanged. The word a
register read returns is held in the port's `response`, the model's own place for it (log entry 3). -/

open Sys2Proof Sys2Proof.Machine Sys2Proof.Safety

/-! ### Encoding -/

/-- 30_encoding.md R90, R93: the word of a well-formed operation decodes to that operation, with every operand at
every value. -/
def Obligations.DecodeOfEncode : Prop :=
  ∀ (p : Config.Params) (i : Instr), WellFormed p i → decodeWord p (encode i) = .ok i

/-- 30_encoding.md R90, R93: a word the decoder accepts is the word of what it decodes to, but for the `DATA` of a
read, which R90 says the block ignores. -/
def Obligations.EncodeOfDecode : Prop :=
  ∀ (p : Config.Params) (t : Trans) (i : Instr), decodeWord p t = .ok i →
    WellFormed p i ∧ encode i = if i.cls = .registerRead then t &&& 0x7FFF00000000#47 else t

/-- Words the spec writes out (40_crc.md R125, R128; 41_frame_build.md R152; 42_frame_parse.md R172; 44_control.md
R234, R237; 95_test_vectors.md P2, V-X1 to V-X9), with eight layout slots. -/
def Obligations.SpecWordsDecode : Prop :=
  let p : Config.Params := { maxCount := 125, rxCap := 256, layoutSlots := 8 }
  decodeWord p 0x600000000002#47 = .ok .crcByte ∧
  decodeWord p 0x6008ABCD1234#47 = .ok (.wrCrc 0xABCD1234#32) ∧
  decodeWord p 0x204400000000#47 = .ok .rdTxW1 ∧
  decodeWord p 0x601C00000101#47 = .ok (.wrRxData 0x00000101#32) ∧
  decodeWord p 0x200400000000#47 = .ok .rdStatus ∧
  decodeWord p 0x600000000106#47 = .ok (.illegalCmd 0x00000106#32) ∧
  decodeWord p 0x609C80050007#47 = .ok (.wrLayout 7 0x80050007#32) ∧
  decodeWord p 0x211C00000000#47 = .ok (.rdReading 7) ∧
  decodeWord p 0x200000000000#47 = .error .direction ∧
  decodeWord p 0x600200000000#47 = .error .misaligned ∧
  decodeWord p 0x100400000000#47 = .error .size ∧
  decodeWord p 0x202C00000000#47 = .error .unmapped ∧
  decodeWord p 0x20A000000000#47 = .error .unmapped

/-- 30_encoding.md R95: the eleven opcodes select their commands and every other opcode is reserved, an illegal
command. -/
def Obligations.CommandOpcodeMap : Prop :=
  ∀ (p : Config.Params) (op : Byte), decodeWord p (0x600000000000#47 ||| op.zeroExtend 47) = .ok
    (match op.toNat with
      | 0x00 => .nop | 0x01 => .crcInit | 0x02 => .crcByte | 0x03 => .crcCheckRx | 0x04 => .buildReq
      | 0x05 => .rxClear | 0x06 => .decode | 0x07 => .field | 0x08 => .layoutCheck | 0x09 => .extract
      | 0x0A => .clrSticky | _ => .illegalCmd (op.zeroExtend 32))

/-- 20_memory.md R62: in the two slot windows a word-aligned address selects slot `ADDR[6:2]` and is mapped exactly
when that slot exists; otherwise the access is a bus error. -/
def Obligations.SlotWindows : Prop :=
  ∀ (p : Config.Params) (a : Addr) (w : Bool) (d : Word), a.extractLsb' 0 2 = 0#2 →
    (0x080 ≤ a.toNat ∧ a.toNat ≤ 0x0FC → ∃ k : Fin 32, k.val = (a.extractLsb' 2 5).toNat ∧
      decodeWord p (mkTrans w a d) =
        if k.val < p.layoutSlots then .ok (if w then .wrLayout k d else .rdLayout k) else .error .unmapped) ∧
    (0x100 ≤ a.toNat ∧ a.toNat ≤ 0x17C → ∃ k : Fin 32, k.val = (a.extractLsb' 2 5).toNat ∧
      decodeWord p (mkTrans w a d) =
        if k.val < p.layoutSlots then (if w then .error .direction else .ok (.rdReading k)) else .error .unmapped)

/-! ### The step -/

/-- 20_memory.md R66, R70: where the host's next transaction decodes to an operation, the step is that operation
on the state with the transaction taken off the host's program and no response yet (the port is the model's own,
log entries 2 and 3). -/
def Obligations.StepRunsDecodedTransaction : Prop :=
  ∀ (s : State) (t : Trans) (rest : List HostEvent) (i : Instr),
    s.port.program = .transaction t :: rest → decodeWord s.cfg t = .ok i →
      step s = exec i { s with port := { program := rest, response := none } }

/-- 20_memory.md R61, R66 and 60_exceptions.md R252: a transaction is a bus error exactly under the four
conditions, said here by the numbers of the address map, and the fault carries its `W`, `SZ` and `ADDR`; every
other transaction completes. -/
def Obligations.BusErrorExactly : Prop :=
  ∀ (s : State) (t : Trans) (rest : List HostEvent), s.cfg.Ok → s.port.program = .transaction t :: rest →
    (step s = .fault (.busError (transW t) (transSz t) (transAddr t)) ↔
      BusErrorCond s.cfg (transW t) (transSz t) (transAddr t)) ∧
    ((∃ u, step s = .next u) ↔ ¬ BusErrorCond s.cfg (transW t) (transSz t) (transAddr t))

/-- 70_reset_and_hazards.md R281 and 00_scope.md R8: the reset input leaves the block as a machine just reset has it
and changes no parameter; where the host does nothing, nothing changes (the host's events are the model's own, log
entries 2, 4 and 9). -/
def Obligations.HostEventsWithoutTransaction : Prop :=
  (∀ (s : State) (rest : List HostEvent), s.port.program = .reset :: rest →
    step s = .next { cfg := s.cfg, block := State.reset.block, port := { program := rest, response := none } }) ∧
  ∀ s : State, s.port.program = [] → step s = .next s

/-- 60_exceptions.md R262, "The block is total": no step is refused. -/
def Obligations.StepNeverRefuses : Prop :=
  ∀ (s : State) (r : Refusal), step s ≠ .refused r

/-- 70_reset_and_hazards.md R285, "every transaction finishes": what the host sends, if none of it is a bus error,
is all carried out, one step each. That the host's program is a list which ends empty, and that a reset (R281) is one
event of it, are the model's own (log entries 2 and 9). -/
def Obligations.AcceptedProgramFinishes : Prop :=
  ∀ s : State, s.cfg.Ok → (∀ e ∈ s.port.program, Accepted s.cfg e) →
    ∃ t, Sys2Proof.core.run s.port.program.length s = .next t ∧ t.port.program = [] ∧ t.cfg = s.cfg

/-- 10_state.md R20: no step changes a parameter. -/
def Obligations.ConfigurationFixed : Prop :=
  ∀ s t : State, step s = .next t → t.cfg = s.cfg

/-! ### Reset and the invariants -/

/-- 70_reset_and_hazards.md R280: the reset value of every component, and what the host reads of them. -/
def Obligations.ResetValues : Prop :=
  let b := State.reset.block
  let reads (i : Instr) (w : Word) : Prop :=
    exec i State.reset = .next { State.reset with port := { State.reset.port with response := some w } }
  (b.crc = 0xFFFF#16 ∧ b.arg0 = 0x0000#16 ∧ b.arg1 = 0x0000#16 ∧ b.result = 0x0000#16 ∧
    (∀ j : Fin 8, b.tx[j] = 0x00#8) ∧ b.txValid = false ∧ b.rx = [] ∧ b.rxOvf = false ∧ b.map = [] ∧
    b.mapValid = false ∧
    (∀ k : Fin 32, b.layout[k].valid = false ∧ b.layout[k].reserved = false ∧ b.layout[k].nameId = 0#8 ∧
      b.layout[k].index = 0#16 ∧ b.reading[k] = none) ∧
    b.rdValid = false ∧ b.err = .ok ∧ b.cause = ⟨false, false, false, false⟩ ∧ b.crcMatch = false ∧
    b.sticky = 0#5) ∧
  (reads .rdStatus 0x00000000#32 ∧ reads .rdCrc 0x0000FFFF#32 ∧ reads .rdArg0 0x00000000#32 ∧
    reads .rdArg1 0x00000000#32 ∧ reads .rdResult 0x00000000#32 ∧ reads .rdTxW0 0x00000000#32 ∧
    reads .rdTxW1 0x00000000#32 ∧ reads .rdRxLen 0x00000000#32 ∧ reads .rdMapCount 0x00000000#32 ∧
    ∀ k : Fin 32, k.val < State.reset.cfg.layoutSlots →
      reads (.rdLayout k) 0x00000000#32 ∧ reads (.rdReading k) 0x00000000#32)

/-- 10_state.md, the invariants it derives (section 7): every step keeps them, from every state that has them. -/
def Obligations.InvariantKeptByStep : Prop :=
  ∀ s t : State, StateInv s → step s = .next t → StateInv t

/-- The machine after reset has the invariants of 10_state.md section 7, whatever its parameters are. -/
def Obligations.InvariantAtReset : Prop := StateInv State.reset

/-- 10_state.md R26, R27, R30, R33: what the components say of each other, kept by every step. That the absent
slots stay untouched is the model's own (log entry 5). -/
def Obligations.CoherenceKeptByStep : Prop :=
  ∀ s t : State, StateInv s → Coherent s.cfg s.block → step s = .next t → Coherent t.cfg t.block

/-- The machine after reset is coherent. -/
def Obligations.CoherenceAtReset : Prop := Coherent State.reset.cfg State.reset.block

/-! ### Control and status -/

/-- 44_control.md R230, R231; 40_crc.md R124; 42_frame_parse.md R171: NOP, CLR_STICKY, CRC_INIT and RX_CLEAR. -/
def Obligations.PlainCommands : Prop :=
  (WordOf 0x600000000000#47 .nop ∧ WordOf 0x60000000000A#47 .clrSticky ∧ WordOf 0x600000000001#47 .crcInit ∧
    WordOf 0x600000000005#47 .rxClear) ∧
  ∀ s : State,
    exec .nop s = .next { s with block := { s.block with err := .ok, cause := Cause.clear } } ∧
    exec .clrSticky s =
      .next { s with block := { s.block with sticky := 0b00000#5, err := .ok, cause := Cause.clear } } ∧
    exec .crcInit s =
      .next { s with block := { s.block with crc := 0xFFFF#16, err := .ok, cause := Cause.clear } } ∧
    exec .rxClear s =
      .next { s with block := { s.block with rx := [], rxOvf := false, err := .ok, cause := Cause.clear } }

/-- 44_control.md R233: which command words are illegal, and that an illegal command records ILLEGAL_CMD and
changes nothing else. -/
def Obligations.IllegalCommandRecorded : Prop :=
  (∀ data : Word, data.extractLsb' 8 24 ≠ 0#24 ∨ 0x0A < (data.extractLsb' 0 8).toNat →
    WordOf (0x600000000000#47 ||| data.zeroExtend 47) (.illegalCmd data)) ∧
  ∀ (s : State) (data : Word), exec (.illegalCmd data) s = .next { s with block := { s.block with
    err := .illegalCmd, cause := Cause.clear, sticky := s.block.sticky ||| 0b01000#5 } }

/-- 44_control.md R232: after every command the cause bits and the history agree with ERR: cause bits only with
MALFORMED, and the sticky bit of a nonzero ERR set; reads and register writes leave ERR and the cause bits. -/
def Obligations.StatusUpdateOfCommands : Prop :=
  ∀ (i : Instr) (s t : State), exec i s = .next t →
    (i.cls = .command → (t.block.err = .malformed ∨ t.block.cause = Cause.clear) ∧
      (t.block.err ≠ .ok → t.block.sticky.getLsbD (t.block.err.code.toNat - 1) = true)) ∧
    (i.cls ≠ .command → t.block.err = s.block.err ∧ t.block.cause = s.block.cause)

/-- 44_control.md R232, "the cause bits describe the last command only": the ERR and the cause bits after a command do
not depend on those before it, so every command writes both. -/
def Obligations.CommandStatusIsFresh : Prop :=
  ∀ (i : Instr) (s : State) (e : ErrCode) (c : Cause), i.cls = .command →
    ∃ t u, exec i s = .next t ∧ exec i { s with block := { s.block with err := e, cause := c } } = .next u ∧
      u.block = t.block

/-- 10_state.md R33: a sticky bit is set by its error code, or bit 4 by a dropped byte, and is cleared by CLR_STICKY
and by the reset input alone (the host's reset event is the model's own, log entry 9). -/
def Obligations.StickyHistory : Prop :=
  (∀ (i : Instr) (s t : State) (j : Nat), j < 5 → exec i s = .next t →
    (t.block.sticky.getLsbD j = true ↔
      (i ≠ .clrSticky ∧ s.block.sticky.getLsbD j = true) ∨
      (i.cls = .command ∧ t.block.err.code.toNat = j + 1) ∨
      (j = 4 ∧ (∃ d, i = .wrRxData d) ∧ s.cfg.rxCap ≤ s.block.rx.length))) ∧
  ∀ (s : State) (rest : List HostEvent), s.port.program = .reset :: rest →
    ∃ t, step s = .next t ∧ t.block.sticky = 0b00000#5

/-- 44_control.md R234: the STATUS word, field by field; the read changes nothing. -/
def Obligations.StatusWordFields : Prop :=
  ReadWord 0x200400000000#47 .rdStatus ∧
  ∀ s : State, ∃ w : Word,
    exec .rdStatus s = .next { s with port := { s.port with response := some w } } ∧
    w.extractLsb' 0 4 = (match s.block.err with
      | .ok => 0#4 | .malformed => 1#4 | .indexOutOfRange => 2#4 | .badParam => 3#4 | .illegalCmd => 4#4) ∧
    w.getLsbD 4 = s.block.cause.len ∧ w.getLsbD 5 = s.block.cause.crc ∧ w.getLsbD 6 = s.block.cause.bc ∧
    w.getLsbD 7 = s.block.cause.ovf ∧ w.getLsbD 8 = s.block.crcMatch ∧ w.getLsbD 9 = s.block.txValid ∧
    w.getLsbD 10 = s.block.mapValid ∧ w.getLsbD 11 = s.block.rdValid ∧ w.getLsbD 12 = s.block.rxOvf ∧
    w.extractLsb' 13 3 = 0#3 ∧ w.extractLsb' 16 5 = s.block.sticky ∧ w.extractLsb' 21 11 = 0#11

/-- 44_control.md R235, R236: PARAM0 and PARAM1, under the constraints of 00_scope.md R6. -/
def Obligations.ParameterReads : Prop :=
  (ReadWord 0x202400000000#47 .rdParam0 ∧ ReadWord 0x202800000000#47 .rdParam1) ∧
  ∀ s : State, s.cfg.Ok → ∃ w0 w1 : Word,
    exec .rdParam0 s = .next { s with port := { s.port with response := some w0 } } ∧
    (w0.extractLsb' 0 16).toNat = s.cfg.maxCount ∧ (w0.extractLsb' 16 16).toNat = s.cfg.rxCap ∧
    exec .rdParam1 s = .next { s with port := { s.port with response := some w1 } } ∧
    w1.toNat = s.cfg.layoutSlots

/-! ### Reads and register writes -/

/-- 20_memory.md R71: a register read changes nothing of the block. -/
def Obligations.ReadsLeaveTheBlock : Prop :=
  ∀ (i : Instr) (s : State), i.cls = .registerRead → WellFormed s.cfg i →
    ∃ w, exec i s = .next { s with port := { s.port with response := some w } }

/-- 20_memory.md R66: a command or a register write completes, changes only the block and returns no data. -/
def Obligations.WritesChangeOnlyTheBlock : Prop :=
  ∀ (i : Instr) (s : State), i.cls ≠ .registerRead → WellFormed s.cfg i →
    ∃ b, exec i s = .next { s with block := b }

/-- 10_state.md R38; 40_crc.md R127; 41_frame_build.md R153, R155; 42_frame_parse.md R173, R184;
43_register_extract.md R202: the six single-field registers read zero-extended, and the reserved bits 31:16 of a write to
CRC, ARG0 or ARG1 are ignored. The lengths fit the word by the invariant of 10_state.md section 7. -/
def Obligations.SingleFieldRegisters : Prop :=
  (ReadWord 0x200800000000#47 .rdCrc ∧ ReadWord 0x200C00000000#47 .rdArg0 ∧ ReadWord 0x201000000000#47 .rdArg1 ∧
    ReadWord 0x201400000000#47 .rdResult ∧ ReadWord 0x201800000000#47 .rdRxLen ∧
    ReadWord 0x202000000000#47 .rdMapCount) ∧
  (∀ s : State, StateInv s → ∃ c a0 a1 r l m : Word,
    exec .rdCrc s = .next { s with port := { s.port with response := some c } } ∧ c.toNat = s.block.crc.toNat ∧
    exec .rdArg0 s = .next { s with port := { s.port with response := some a0 } } ∧ a0.toNat = s.block.arg0.toNat ∧
    exec .rdArg1 s = .next { s with port := { s.port with response := some a1 } } ∧ a1.toNat = s.block.arg1.toNat ∧
    exec .rdResult s = .next { s with port := { s.port with response := some r } } ∧
    r.toNat = s.block.result.toNat ∧
    exec .rdRxLen s = .next { s with port := { s.port with response := some l } } ∧ l.toNat = s.block.rx.length ∧
    exec .rdMapCount s = .next { s with port := { s.port with response := some m } } ∧
    m.toNat = s.block.map.length) ∧
  ∀ (s : State) (d e : Word), d.extractLsb' 0 16 = e.extractLsb' 0 16 →
    exec (.wrCrc d) s = exec (.wrCrc e) s ∧ exec (.wrArg0 d) s = exec (.wrArg0 e) s ∧
    exec (.wrArg1 d) s = exec (.wrArg1 e) s

/-- 40_crc.md R128; 41_frame_build.md R154, R156: a write to CRC, ARG0 or ARG1 stores `DATA[15:0]` and changes
nothing else. -/
def Obligations.OperandRegisterWrites : Prop :=
  (WriteWord 0x600800000000#47 .wrCrc ∧ WriteWord 0x600C00000000#47 .wrArg0 ∧
    WriteWord 0x601000000000#47 .wrArg1) ∧
  ∀ (s : State) (d : Word), ∃ v : Half, v.toNat = d.toNat % 0x10000 ∧
    exec (.wrCrc d) s = .next { s with block := { s.block with crc := v } } ∧
    exec (.wrArg0 d) s = .next { s with block := { s.block with arg0 := v } } ∧
    exec (.wrArg1 d) s = .next { s with block := { s.block with arg1 := v } }

/-- 20_memory.md R72: writes to CRC, ARG0, ARG1 and LAYOUT[k] are idempotent, and a write to RX_DATA is not: while
there is room each appends its byte. -/
def Obligations.IdempotentWrites : Prop :=
  (∀ (i : Instr) (s t : State), i.cls = .registerWrite → (∀ d, i ≠ .wrRxData d) →
    exec i s = .next t → exec i t = .next t) ∧
  ∀ (s : State) (d : Word), s.block.rx.length + 1 < s.cfg.rxCap → ∃ t u,
    exec (.wrRxData d) s = .next t ∧ exec (.wrRxData d) t = .next u ∧
    u.block.rx = s.block.rx ++ [d.extractLsb' 0 8, d.extractLsb' 0 8]

/-! ### Who writes what -/

/-- 10_state.md R21 to R24: the working registers change only by the operations those rules name. -/
def Obligations.WorkingRegisterWriters : Prop :=
  ∀ (i : Instr) (s t : State), exec i s = .next t →
    (t.block.crc ≠ s.block.crc → i ∈ [.crcInit, .crcByte, .crcCheckRx] ∨ ∃ d, i = .wrCrc d) ∧
    (t.block.arg0 ≠ s.block.arg0 → ∃ d, i = .wrArg0 d) ∧
    (t.block.arg1 ≠ s.block.arg1 → ∃ d, i = .wrArg1 d) ∧
    (t.block.result ≠ s.block.result → i = .field ∧ t.block.err = .ok)

/-- 10_state.md R26 to R28: the buffers and their flags change only by the operations those rules name; a failed
BUILD_REQ keeps the frame, and a push only appends. -/
def Obligations.BufferWriters : Prop :=
  ∀ (i : Instr) (s t : State), exec i s = .next t →
    (t.block.tx ≠ s.block.tx → i = .buildReq ∧ t.block.err = .ok) ∧
    (i = .buildReq → (t.block.txValid = true ↔ t.block.err = .ok)) ∧
    (i ≠ .buildReq → t.block.txValid = s.block.txValid) ∧
    (t.block.rx ≠ s.block.rx → (i = .rxClear ∧ t.block.rx = []) ∨ ∃ d b, i = .wrRxData d ∧ t.block.rx = s.block.rx ++ [b]) ∧
    (t.block.rxOvf ≠ s.block.rxOvf → i = .rxClear ∨ ∃ d, i = .wrRxData d ∧ s.cfg.rxCap ≤ s.block.rx.length) ∧
    (i ≠ .decode → t.block.map = s.block.map ∧ t.block.mapValid = s.block.mapValid) ∧
    (i = .decode → (t.block.mapValid = true ↔ t.block.err = .ok))

/-- 10_state.md R29, R30: a layout slot changes only by a write to it, and the readings only by EXTRACT and DECODE. -/
def Obligations.TableWriters : Prop :=
  ∀ (i : Instr) (s t : State) (k : Fin 32), exec i s = .next t →
    (t.block.layout[k] ≠ s.block.layout[k] → ∃ d, i = .wrLayout k d) ∧
    (t.block.reading ≠ s.block.reading ∨ t.block.rdValid ≠ s.block.rdValid → i = .extract ∨ i = .decode) ∧
    (i = .extract → (t.block.rdValid = true ↔ t.block.err = .ok)) ∧
    (i = .decode → t.block.rdValid = false ∧ t.block.reading[k] = none)

/-! ### The CRC -/

/-- 00_scope.md R10 and 20_memory.md R68: the value of two bytes in each byte order, and that a value's bytes give it
back. -/
def Obligations.FrameByteOrder : Prop :=
  (∀ a b : Byte, (be16 a b).toNat = a.toNat * 256 + b.toNat ∧ (le16 a b).toNat = b.toNat * 256 + a.toNat) ∧
  ∀ v : Half, be16 (hiByte v) (loByte v) = v ∧ le16 (loByte v) (hiByte v) = v

/-- 40_crc.md R125: CRC_BYTE advances the generator by `arg0[7:0]`; after it the generator holds the CRC of one byte
more. That last clause rests on the CRC function the spec marks as general knowledge (log entry 7). -/
def Obligations.CrcByteAdvances : Prop :=
  WordOf 0x600000000002#47 .crcByte ∧
  ∀ s : State, ∃ c : Half,
    exec .crcByte s = .next { s with block := { s.block with crc := c, err := .ok, cause := Cause.clear } } ∧
    c = crcStep s.block.crc (s.block.arg0.extractLsb' 0 8) ∧
    ∀ (init : Half) (m : List Byte), s.block.crc = crc16 init m → c = crc16 init (m ++ [s.block.arg0.extractLsb' 0 8])

/-- 40_crc.md section 1, "Table-driven or parallel implementations must give the same": the byte-at-a-time form. It
rests on the bit order the spec marks as general knowledge (log entry 7). -/
def Obligations.CrcStepTableForm : Prop :=
  ∀ (c : Half) (b : Byte), crcStep c b = (c >>> 8) ^^^ crcStep 0x0000#16 (b ^^^ c.extractLsb' 0 8)

/-- 40_crc.md section 3, the residue: bytes followed by their CRC, low byte first, have the CRC 0. It rests on the
CRC function the spec marks as general knowledge (log entry 7). -/
def Obligations.CrcResidueZero : Prop :=
  ∀ (init : Half) (m : List Byte), crc16 init (m ++ [loByte (crc16 init m), hiByte (crc16 init m)]) = 0x0000#16

/-- 40_crc.md section 3: a change of one byte, of one bit among others, changes the CRC. It rests on the CRC function
the spec marks as general knowledge (log entry 7). -/
def Obligations.CrcDetectsByteChange : Prop :=
  ∀ (init : Half) (a b : List Byte) (x y : Byte), x ≠ y → crc16 init (a ++ x :: b) ≠ crc16 init (a ++ y :: b)

/-- 40_crc.md R126: CRC_CHECK_RX on a buffer of fewer than two bytes, and on one that ends in the trailer `lo hi`. -/
def Obligations.CrcCheckRxOutcome : Prop :=
  WordOf 0x600000000003#47 .crcCheckRx ∧
  ∀ s : State,
    (s.block.rx.length < 2 → exec .crcCheckRx s = .next { s with block := { s.block with
      crcMatch := false, err := .malformed, sticky := s.block.sticky ||| 0b00001#5,
      cause := { len := false, crc := true, bc := false, ovf := s.block.rxOvf } } }) ∧
    ∀ (body : List Byte) (lo hi : Byte), s.block.rx = body ++ [lo, hi] →
      (crc16 0xFFFF#16 body = le16 lo hi ∧ s.block.rxOvf = false →
        exec .crcCheckRx s = .next { s with block := { s.block with
          crc := crc16 0xFFFF#16 body, crcMatch := true, err := .ok, cause := Cause.clear } }) ∧
      (crc16 0xFFFF#16 body ≠ le16 lo hi ∨ s.block.rxOvf = true →
        exec .crcCheckRx s = .next { s with block := { s.block with
          crc := crc16 0xFFFF#16 body, crcMatch := decide (crc16 0xFFFF#16 body = le16 lo hi),
          err := .malformed, sticky := s.block.sticky ||| 0b00001#5,
          cause := ⟨false, decide (crc16 0xFFFF#16 body ≠ le16 lo hi), false, s.block.rxOvf⟩ } })

/-! ### The request frame -/

/-- 41_frame_build.md R150, R151: BUILD_REQ with a count of 0 or above `MAX_COUNT` records BAD_PARAM and keeps the
frame; with any other count it writes the whole frame. -/
def Obligations.BuildReqOutcome : Prop :=
  WordOf 0x600000000004#47 .buildReq ∧
  ∀ s : State,
    (s.block.arg1.toNat = 0 ∨ s.cfg.maxCount < s.block.arg1.toNat →
      exec .buildReq s = .next { s with block := { s.block with
        txValid := false, err := .badParam, cause := Cause.clear, sticky := s.block.sticky ||| 0b00100#5 } }) ∧
    (1 ≤ s.block.arg1.toNat ∧ s.block.arg1.toNat ≤ s.cfg.maxCount → ∃ tx : Vector Byte 8,
      exec .buildReq s = .next { s with block := { s.block with
        tx := tx, txValid := true, err := .ok, cause := Cause.clear } } ∧
      tx[0] = 0x01#8 ∧ tx[1] = 0x03#8 ∧ tx[2] = s.block.arg0.extractLsb' 8 8 ∧ tx[3] = s.block.arg0.extractLsb' 0 8 ∧
      tx[4] = s.block.arg1.extractLsb' 8 8 ∧ tx[5] = s.block.arg1.extractLsb' 0 8 ∧
      tx[6] = (crc16 0xFFFF#16 [tx[0], tx[1], tx[2], tx[3], tx[4], tx[5]]).extractLsb' 0 8 ∧
      tx[7] = (crc16 0xFFFF#16 [tx[0], tx[1], tx[2], tx[3], tx[4], tx[5]]).extractLsb' 8 8)

/-- 41_frame_build.md section 3: the frame of a successful BUILD_REQ has the CRC 0 over its eight bytes. It rests on
the CRC function the spec marks as general knowledge (log entry 7). -/
def Obligations.BuildReqFrameResidue : Prop :=
  ∀ s t : State, exec .buildReq s = .next t → t.block.err = .ok → crc16 0xFFFF#16 t.block.tx.toList = 0x0000#16

/-- 41_frame_build.md R152 (and 10_state.md R37): byte `j` of TX_W0 is `tx[j]` and of TX_W1 `tx[4 + j]`, whatever
TX_VALID is. -/
def Obligations.TxWordReads : Prop :=
  (ReadWord 0x204000000000#47 .rdTxW0 ∧ ReadWord 0x204400000000#47 .rdTxW1) ∧
  ∀ s : State, ∃ w0 w1 : Word,
    exec .rdTxW0 s = .next { s with port := { s.port with response := some w0 } } ∧
    exec .rdTxW1 s = .next { s with port := { s.port with response := some w1 } } ∧
    ∀ (j : Nat) (h : j < 4), w0.extractLsb' (8 * j) 8 = s.block.tx[j] ∧ w1.extractLsb' (8 * j) 8 = s.block.tx[4 + j]

/-! ### The response buffer and DECODE -/

/-- 42_frame_parse.md R172: a push appends `DATA[7:0]` while there is room; else the byte is dropped and the overflow
recorded. -/
def Obligations.RxPushOutcome : Prop :=
  WriteWord 0x601C00000000#47 .wrRxData ∧
  ∀ (s : State) (d : Word),
    (s.block.rx.length < s.cfg.rxCap → exec (.wrRxData d) s = .next { s with block := { s.block with
      rx := s.block.rx ++ [d.extractLsb' 0 8] } }) ∧
    (s.cfg.rxCap ≤ s.block.rx.length → exec (.wrRxData d) s = .next { s with block := { s.block with
      rxOvf := true, sticky := s.block.sticky ||| 0b10000#5 } })

/-- 42_frame_parse.md R180 to R182: DECODE with the four checks said of the buffer's bytes and unbounded numbers. If
all hold the map is the `n` big-endian registers from byte 3; if one fails there is no map and every failing check
sets its cause bit. -/
def Obligations.DecodeOutcome : Prop :=
  WordOf 0x600000000006#47 .decode ∧
  ∀ s : State,
    let n := s.block.arg1.toNat
    let rx := s.block.rx
    let lengthHolds : Prop := 3 + 2 * n + 2 ≤ rx.length
    let crcHolds : Prop := ∃ body lo hi, rx = body ++ [lo, hi] ∧ crc16 0xFFFF#16 body = le16 lo hi
    let byteCountHolds : Prop := ∃ c, rx[2]? = some c ∧ c.toNat = 2 * n
    let nothingLost : Prop := s.block.rxOvf = false
    (lengthHolds ∧ crcHolds ∧ byteCountHolds ∧ nothingLost → ∃ m : List Half,
      exec .decode s = .next { s with block := { s.block with
        map := m, mapValid := true, reading := Vector.replicate 32 none, rdValid := false, crcMatch := true,
        err := .ok, cause := Cause.clear } } ∧
      m.length = n ∧ ∀ j, j < n → ∃ h l v, rx[3 + 2 * j]? = some h ∧ rx[4 + 2 * j]? = some l ∧ m[j]? = some v ∧
        v.toNat = h.toNat * 256 + l.toNat) ∧
    (¬ (lengthHolds ∧ crcHolds ∧ byteCountHolds ∧ nothingLost) → ∃ (x : Bool) (c : Cause),
      exec .decode s = .next { s with block := { s.block with
        map := [], mapValid := false, reading := Vector.replicate 32 none, rdValid := false, crcMatch := x,
        err := .malformed, cause := c, sticky := s.block.sticky ||| 0b00001#5 } } ∧
      (x = true ↔ crcHolds) ∧ (c.len = true ↔ ¬ lengthHolds) ∧ (c.crc = true ↔ ¬ crcHolds) ∧
      (c.bc = true ↔ ¬ byteCountHolds) ∧ (c.ovf = true ↔ ¬ nothingLost))

/-- 42_frame_parse.md section 4, round trip: a frame with the byte-count `2*n`, the values big-endian and the CRC of
all that, with any first two bytes, decodes to those values, and FIELD returns each of them. -/
def Obligations.DecodeRoundTrip : Prop :=
  ∀ (s : State) (h0 h1 : Byte) (vs : List Half), 1 ≤ vs.length → vs.length ≤ 127 →
    let body := [h0, h1, BitVec.ofNat 8 (2 * vs.length)] ++ vs.flatMap fun v => [hiByte v, loByte v]
    s.block.rx = body ++ [loByte (crc16 0xFFFF#16 body), hiByte (crc16 0xFFFF#16 body)] →
    s.block.rxOvf = false → s.block.arg1.toNat = vs.length →
    ∃ t, exec .decode s = .next t ∧ t.block.map = vs ∧ t.block.mapValid = true ∧ t.block.err = .ok ∧
      ∀ (j : Nat) (v : Half), vs[j]? = some v →
        ∃ u, exec .field { t with block := { t.block with arg0 := BitVec.ofNat 16 j } } = .next u ∧
          u.block.result = v ∧ u.block.err = .ok

/-- 42_frame_parse.md section 4, corruption: a buffer whose CRC check holds, with any one byte changed, is rejected
with C_CRC and leaves no map. It rests on the CRC function the spec marks as general knowledge (log entry 7). -/
def Obligations.DecodeDetectsCorruption : Prop :=
  ∀ (s : State) (a b body : List Byte) (x y lo hi : Byte), a ++ x :: b = body ++ [lo, hi] →
    crc16 0xFFFF#16 body = le16 lo hi → x ≠ y → s.block.rx = a ++ y :: b →
    ∃ t, exec .decode s = .next t ∧ t.block.err = .malformed ∧ t.block.cause.crc = true ∧ t.block.crcMatch = false ∧
      t.block.map = [] ∧ t.block.mapValid = false

/-- 42_frame_parse.md section 3, the bounds of DECODE: success needs at most 127 registers and a buffer that holds
them; 128 or more always fail the byte-count check, and fewer than 5 bytes always the length check. -/
def Obligations.DecodeBounds : Prop :=
  ∀ s : State, ∃ t, exec .decode s = .next t ∧
    (t.block.err = .ok → s.block.arg1.toNat ≤ 127 ∧ 2 * s.block.arg1.toNat + 5 ≤ s.block.rx.length ∧
      t.block.map.length = s.block.arg1.toNat) ∧
    (128 ≤ s.block.arg1.toNat → t.block.err = .malformed ∧ t.block.cause.bc = true) ∧
    (s.block.rx.length < 5 → t.block.err = .malformed ∧ t.block.cause.len = true)

/-- 42_frame_parse.md section 3, the one-byte extension: a buffer DECODE accepts, followed by one byte 0x00, is
accepted with the same map. It rests on the CRC function the spec marks as general knowledge (log entry 7). -/
def Obligations.DecodeAcceptsExtraZeroByte : Prop :=
  ∀ s t : State, exec .decode s = .next t → t.block.err = .ok →
    ∃ u, exec .decode { s with block := { s.block with rx := s.block.rx ++ [0x00#8] } } = .next u ∧
      u.block.err = .ok ∧ u.block.map = t.block.map

/-- 42_frame_parse.md section 4, recovery: what DECODE leaves depends on the buffer, its overflow bit and the count
alone, so nothing of an earlier DECODE shows but the sticky bits. -/
def Obligations.DecodeIgnoresHistory : Prop :=
  ∀ s s' : State, s.block.rx = s'.block.rx → s.block.rxOvf = s'.block.rxOvf → s.block.arg1 = s'.block.arg1 →
    ∃ t t', exec .decode s = .next t ∧ exec .decode s' = .next t' ∧ t.block.map = t'.block.map ∧
      t.block.mapValid = t'.block.mapValid ∧ t.block.reading = t'.block.reading ∧
      t.block.rdValid = t'.block.rdValid ∧ t.block.err = t'.block.err ∧ t.block.cause = t'.block.cause ∧
      t.block.crcMatch = t'.block.crcMatch

/-! ### The register extractor -/

/-- 43_register_extract.md R201: FIELD returns the map's value at `arg0`, or records INDEX_OUT_OF_RANGE and keeps
RESULT. -/
def Obligations.FieldOutcome : Prop :=
  WordOf 0x600000000007#47 .field ∧
  ∀ s : State,
    (∀ v, s.block.map[s.block.arg0.toNat]? = some v → exec .field s = .next { s with block := { s.block with
      result := v, err := .ok, cause := Cause.clear } }) ∧
    (s.block.map.length ≤ s.block.arg0.toNat → exec .field s = .next { s with block := { s.block with
      err := .indexOutOfRange, cause := Cause.clear, sticky := s.block.sticky ||| 0b00010#5 } })

/-- 43_register_extract.md R206: the LAYOUT word of a slot that exists; the read of a slot that does not exist is a
bus error. -/
def Obligations.LayoutReadFields : Prop :=
  SlotWord 0x208000000000#47 (fun k _ => .rdLayout k) ∧
  ∀ (s : State) (k : Fin 32),
    (k.val < s.cfg.layoutSlots → ∃ w : Word,
      exec (.rdLayout k) s = .next { s with port := { s.port with response := some w } } ∧
      w.getLsbD 31 = s.block.layout[k].valid ∧ w.getLsbD 30 = s.block.layout[k].reserved ∧
      w.extractLsb' 24 6 = 0#6 ∧ w.extractLsb' 16 8 = s.block.layout[k].nameId ∧
      w.extractLsb' 0 16 = s.block.layout[k].index) ∧
    (s.cfg.layoutSlots ≤ k.val →
      exec (.rdLayout k) s = .fault (.busError false 0b10#2 (BitVec.ofNat 12 (0x080 + 4 * k.val))))

/-- 43_register_extract.md R207: a LAYOUT write stores its four fields in its slot and changes nothing else; on a slot
that does not exist it is a bus error. -/
def Obligations.LayoutWrite : Prop :=
  SlotWord 0x608000000000#47 .wrLayout ∧
  ∀ (s : State) (k : Fin 32) (d : Word),
    (k.val < s.cfg.layoutSlots → ∃ l : Vector Slot 32,
      exec (.wrLayout k d) s = .next { s with block := { s.block with layout := l } } ∧
      l[k].valid = d.getLsbD 31 ∧ l[k].reserved = d.getLsbD 30 ∧ l[k].nameId = d.extractLsb' 16 8 ∧
      l[k].index = d.extractLsb' 0 16 ∧ ∀ j : Fin 32, j ≠ k → l[j] = s.block.layout[j]) ∧
    (s.cfg.layoutSlots ≤ k.val →
      exec (.wrLayout k d) s = .fault (.busError true 0b10#2 (BitVec.ofNat 12 (0x080 + 4 * k.val))))

/-- 10_state.md R35, 20_memory.md R65 and 70_reset_and_hazards.md R283: a LAYOUT word reads back as written, its
reserved bits 29:24 as 0. -/
def Obligations.LayoutReadBack : Prop :=
  ∀ (s : State) (k : Fin 32) (d : Word), k.val < s.cfg.layoutSlots → ∃ t,
    exec (.wrLayout k d) s = .next t ∧
    exec (.rdLayout k) t = .next { t with port := { t.port with response := some (d &&& 0xC0FFFFFF#32) } }

/-- 43_register_extract.md R210 (and 10_state.md R36): the READING word of a slot that exists, with the slot's name at
the time of the read; the read of a slot that does not exist is a bus error. -/
def Obligations.ReadingRead : Prop :=
  SlotWord 0x210000000000#47 (fun k _ => .rdReading k) ∧
  ∀ (s : State) (k : Fin 32),
    (k.val < s.cfg.layoutSlots → ∃ w : Word,
      exec (.rdReading k) s = .next { s with port := { s.port with response := some w } } ∧
      (s.block.reading[k] = none → w = 0x00000000#32) ∧
      ∀ v, s.block.reading[k] = some v → w.getLsbD 31 = true ∧ w.extractLsb' 24 7 = 0#7 ∧
        w.extractLsb' 16 8 = s.block.layout[k].nameId ∧ w.extractLsb' 0 16 = v) ∧
    (s.cfg.layoutSlots ≤ k.val →
      exec (.rdReading k) s = .fault (.busError false 0b10#2 (BitVec.ofNat 12 (0x100 + 4 * k.val))))

/-- 43_register_extract.md R204, R208: LAYOUT_CHECK fails exactly when an existing slot that is valid and not reserved
has an index at or beyond `arg1`. -/
def Obligations.LayoutCheckOutcome : Prop :=
  WordOf 0x600000000008#47 .layoutCheck ∧
  ∀ s : State,
    let bad : Prop := ∃ k : Fin 32, k.val < s.cfg.layoutSlots ∧ s.block.layout[k].valid = true ∧
      s.block.layout[k].reserved = false ∧ s.block.arg1.toNat ≤ s.block.layout[k].index.toNat
    (¬ bad → exec .layoutCheck s = .next { s with block := { s.block with err := .ok, cause := Cause.clear } }) ∧
    (bad → exec .layoutCheck s = .next { s with block := { s.block with
      err := .indexOutOfRange, cause := Cause.clear, sticky := s.block.sticky ||| 0b00010#5 } })

/-- 43_register_extract.md R204, R209: EXTRACT gives every active slot the map's value at its index and every other
slot none, all or nothing. -/
def Obligations.ExtractOutcome : Prop :=
  WordOf 0x600000000009#47 .extract ∧
  ∀ s : State,
    let active (k : Fin 32) : Prop := k.val < s.cfg.layoutSlots ∧ s.block.layout[k].valid = true ∧
      s.block.layout[k].reserved = false
    let bad : Prop := s.block.mapValid = false ∨
      ∃ k : Fin 32, active k ∧ s.block.map.length ≤ s.block.layout[k].index.toNat
    (¬ bad → ∃ r : Vector (Option Half) 32,
      exec .extract s = .next { s with block := { s.block with
        reading := r, rdValid := true, err := .ok, cause := Cause.clear } } ∧
      ∀ k : Fin 32, (active k → ∃ v, s.block.map[s.block.layout[k].index.toNat]? = some v ∧ r[k] = some v) ∧
        (¬ active k → r[k] = none)) ∧
    (bad → exec .extract s = .next { s with block := { s.block with
      reading := Vector.replicate 32 none, rdValid := false, err := .indexOutOfRange, cause := Cause.clear,
      sticky := s.block.sticky ||| 0b00010#5 } })

/-- 43_register_extract.md section 3: if every slot that names index `j` is unused or reserved, every reading after
EXTRACT is the value at another index. -/
def Obligations.ReservedIndexNeverExposed : Prop :=
  ∀ (s : State) (j : Nat),
    (∀ k : Fin 32, s.block.layout[k].index.toNat = j → s.block.layout[k].valid = false ∨ s.block.layout[k].reserved = true) →
    ∃ t, exec .extract s = .next t ∧ ∀ (k : Fin 32) (v : Half), t.block.reading[k] = some v →
      s.block.layout[k].index.toNat ≠ j ∧ s.block.map[s.block.layout[k].index.toNat]? = some v

/-- 43_register_extract.md section 3: the readings after EXTRACT depend on the map and the layout alone, never on
earlier readings. -/
def Obligations.ExtractIgnoresHistory : Prop :=
  ∀ s s' : State, s.cfg = s'.cfg → s.block.map = s'.block.map → s.block.mapValid = s'.block.mapValid →
    s.block.layout = s'.block.layout →
    ∃ t t', exec .extract s = .next t ∧ exec .extract s' = .next t' ∧ t.block.reading = t'.block.reading ∧
      t.block.rdValid = t'.block.rdValid ∧ t.block.err = t'.block.err
end

