-- ==== Sys2Proof/Laws/Config.lean ====
section
/-! SUPPORT. The parameters of the machine after reset meet 00_scope.md R6, whatever the unknown numbers are. -/

namespace Sys2Proof.Config

theorem params_ok : params.Ok := by
  have h1 : rawMaxCount % 32765 < 32765 := Nat.mod_lt _ (by decide)
  have h2 : rawLayoutSlots % 32 < 32 := Nat.mod_lt _ (by decide)
  have h3 : rawRxCap % (65531 - 2 * instanceMaxCount) < 65531 - 2 * instanceMaxCount :=
    Nat.mod_lt _ (by unfold instanceMaxCount; omega)
  refine ⟨?_, ?_, ?_, ?_, ?_⟩ <;> simp only [params, instanceMaxCount] at * <;> omega

end Sys2Proof.Config
end

