-- ==== Sys2Proof/Laws/Decode.lean ====
section
/-! SUPPORT. The fields of a transaction word made by `mkTrans`, and the slots of the window addresses. -/

namespace Sys2Proof

/-- Which field each bit of a transaction word comes from (30_encoding.md R90). -/
theorem getLsbD_mkTrans (w : Bool) (a : Addr) (d : Word) (i : Nat) :
    (mkTrans w a d).getLsbD i =
      if i < 32 then d.getLsbD i
      else if i < 44 then a.getLsbD (i - 32)
      else if i < 46 then szWord.getLsbD (i - 44)
      else decide (i = 46) && w := by
  change BitVec.getLsbD (w := 1 + 2 + 12 + 32) _ i = _
  unfold mkTrans
  simp only [BitVec.getLsbD_append, BitVec.getLsbD_ofBool]
  simp only [Nat.sub_sub, Nat.reduceAdd]
  split_ifs <;> first | rfl | omega | skip
  congr 1
  simp; omega

@[simp] theorem transW_mkTrans (w : Bool) (a : Addr) (d : Word) : transW (mkTrans w a d) = w := by
  rw [transW, getLsbD_mkTrans]; simp

@[simp] theorem transSz_mkTrans (w : Bool) (a : Addr) (d : Word) : transSz (mkTrans w a d) = szWord := by
  apply BitVec.eq_of_getLsbD_eq
  intro i hi
  have h1 : ¬ 44 + i < 32 := by omega
  have h2 : 44 + i < 46 := by omega
  simp [transSz, getLsbD_mkTrans, hi, h1, h2]

@[simp] theorem transAddr_mkTrans (w : Bool) (a : Addr) (d : Word) : transAddr (mkTrans w a d) = a := by
  apply BitVec.eq_of_getLsbD_eq
  intro i hi
  have h2 : 32 + i < 44 := by omega
  simp [transAddr, getLsbD_mkTrans, hi, h2]

@[simp] theorem transData_mkTrans (w : Bool) (a : Addr) (d : Word) : transData (mkTrans w a d) = d := by
  apply BitVec.eq_of_getLsbD_eq
  intro i hi
  simp [transData, getLsbD_mkTrans, hi]

/-- A word of the accepted size is made of its fields. -/
theorem mkTrans_fields (t : Trans) (h : transSz t = szWord) : mkTrans (transW t) (transAddr t) (transData t) = t := by
  apply BitVec.eq_of_getLsbD_eq
  intro i hi
  rw [getLsbD_mkTrans, ← h]
  simp only [transW, transSz, transAddr, transData, BitVec.getLsbD_extractLsb']
  split_ifs with h1 h2 h3
  · simp [h1]
  · rw [show 32 + (i - 32) = i by omega]; simp; omega
  · rw [show 44 + (i - 44) = i by omega]; simp; omega
  · obtain rfl : i = 46 := by omega
    simp

/-- A word with `DATA` put into the low bits of one whose `DATA` is 0. -/
theorem mkTrans_or (w : Bool) (a : Addr) (d : Word) : mkTrans w a 0#32 ||| d.zeroExtend 47 = mkTrans w a d := by
  apply BitVec.eq_of_getLsbD_eq
  intro i hi
  rw [BitVec.getLsbD_or, getLsbD_mkTrans, getLsbD_mkTrans]
  by_cases h : i < 32
  · simp [h, hi]
  · simp [h, hi, BitVec.getLsbD_of_ge d i (by omega)]

@[simp] theorem slotOf_layoutAddr (k : Fin 32) : slotOf (layoutAddr k) = k := by
  revert k; decide

@[simp] theorem slotOf_readingAddr (k : Fin 32) : slotOf (readingAddr k) = k := by
  revert k; decide

end Sys2Proof
end

