-- ==== Sys2Proof/Laws/State.lean ====
section
/-! SUPPORT. One lemma per component of the block per update of Machine/Ops.lean, so that no proof unfolds a
record update. -/

namespace Sys2Proof.Machine

@[simp] theorem Block.setCrc_crc (b : Block) (v : Half) : (b.setCrc v).crc = v := rfl
@[simp] theorem Block.setCrc_arg0 (b : Block) (v : Half) : (b.setCrc v).arg0 = b.arg0 := rfl
@[simp] theorem Block.setCrc_arg1 (b : Block) (v : Half) : (b.setCrc v).arg1 = b.arg1 := rfl
@[simp] theorem Block.setCrc_result (b : Block) (v : Half) : (b.setCrc v).result = b.result := rfl
@[simp] theorem Block.setCrc_tx (b : Block) (v : Half) : (b.setCrc v).tx = b.tx := rfl
@[simp] theorem Block.setCrc_txValid (b : Block) (v : Half) : (b.setCrc v).txValid = b.txValid := rfl
@[simp] theorem Block.setCrc_rx (b : Block) (v : Half) : (b.setCrc v).rx = b.rx := rfl
@[simp] theorem Block.setCrc_rxOvf (b : Block) (v : Half) : (b.setCrc v).rxOvf = b.rxOvf := rfl
@[simp] theorem Block.setCrc_map (b : Block) (v : Half) : (b.setCrc v).map = b.map := rfl
@[simp] theorem Block.setCrc_mapValid (b : Block) (v : Half) : (b.setCrc v).mapValid = b.mapValid := rfl
@[simp] theorem Block.setCrc_layout (b : Block) (v : Half) : (b.setCrc v).layout = b.layout := rfl
@[simp] theorem Block.setCrc_reading (b : Block) (v : Half) : (b.setCrc v).reading = b.reading := rfl
@[simp] theorem Block.setCrc_rdValid (b : Block) (v : Half) : (b.setCrc v).rdValid = b.rdValid := rfl
@[simp] theorem Block.setCrc_err (b : Block) (v : Half) : (b.setCrc v).err = b.err := rfl
@[simp] theorem Block.setCrc_cause (b : Block) (v : Half) : (b.setCrc v).cause = b.cause := rfl
@[simp] theorem Block.setCrc_crcMatch (b : Block) (v : Half) : (b.setCrc v).crcMatch = b.crcMatch := rfl
@[simp] theorem Block.setCrc_sticky (b : Block) (v : Half) : (b.setCrc v).sticky = b.sticky := rfl

@[simp] theorem Block.setArg0_crc (b : Block) (v : Half) : (b.setArg0 v).crc = b.crc := rfl
@[simp] theorem Block.setArg0_arg0 (b : Block) (v : Half) : (b.setArg0 v).arg0 = v := rfl
@[simp] theorem Block.setArg0_arg1 (b : Block) (v : Half) : (b.setArg0 v).arg1 = b.arg1 := rfl
@[simp] theorem Block.setArg0_result (b : Block) (v : Half) : (b.setArg0 v).result = b.result := rfl
@[simp] theorem Block.setArg0_tx (b : Block) (v : Half) : (b.setArg0 v).tx = b.tx := rfl
@[simp] theorem Block.setArg0_txValid (b : Block) (v : Half) : (b.setArg0 v).txValid = b.txValid := rfl
@[simp] theorem Block.setArg0_rx (b : Block) (v : Half) : (b.setArg0 v).rx = b.rx := rfl
@[simp] theorem Block.setArg0_rxOvf (b : Block) (v : Half) : (b.setArg0 v).rxOvf = b.rxOvf := rfl
@[simp] theorem Block.setArg0_map (b : Block) (v : Half) : (b.setArg0 v).map = b.map := rfl
@[simp] theorem Block.setArg0_mapValid (b : Block) (v : Half) : (b.setArg0 v).mapValid = b.mapValid := rfl
@[simp] theorem Block.setArg0_layout (b : Block) (v : Half) : (b.setArg0 v).layout = b.layout := rfl
@[simp] theorem Block.setArg0_reading (b : Block) (v : Half) : (b.setArg0 v).reading = b.reading := rfl
@[simp] theorem Block.setArg0_rdValid (b : Block) (v : Half) : (b.setArg0 v).rdValid = b.rdValid := rfl
@[simp] theorem Block.setArg0_err (b : Block) (v : Half) : (b.setArg0 v).err = b.err := rfl
@[simp] theorem Block.setArg0_cause (b : Block) (v : Half) : (b.setArg0 v).cause = b.cause := rfl
@[simp] theorem Block.setArg0_crcMatch (b : Block) (v : Half) : (b.setArg0 v).crcMatch = b.crcMatch := rfl
@[simp] theorem Block.setArg0_sticky (b : Block) (v : Half) : (b.setArg0 v).sticky = b.sticky := rfl

@[simp] theorem Block.setArg1_crc (b : Block) (v : Half) : (b.setArg1 v).crc = b.crc := rfl
@[simp] theorem Block.setArg1_arg0 (b : Block) (v : Half) : (b.setArg1 v).arg0 = b.arg0 := rfl
@[simp] theorem Block.setArg1_arg1 (b : Block) (v : Half) : (b.setArg1 v).arg1 = v := rfl
@[simp] theorem Block.setArg1_result (b : Block) (v : Half) : (b.setArg1 v).result = b.result := rfl
@[simp] theorem Block.setArg1_tx (b : Block) (v : Half) : (b.setArg1 v).tx = b.tx := rfl
@[simp] theorem Block.setArg1_txValid (b : Block) (v : Half) : (b.setArg1 v).txValid = b.txValid := rfl
@[simp] theorem Block.setArg1_rx (b : Block) (v : Half) : (b.setArg1 v).rx = b.rx := rfl
@[simp] theorem Block.setArg1_rxOvf (b : Block) (v : Half) : (b.setArg1 v).rxOvf = b.rxOvf := rfl
@[simp] theorem Block.setArg1_map (b : Block) (v : Half) : (b.setArg1 v).map = b.map := rfl
@[simp] theorem Block.setArg1_mapValid (b : Block) (v : Half) : (b.setArg1 v).mapValid = b.mapValid := rfl
@[simp] theorem Block.setArg1_layout (b : Block) (v : Half) : (b.setArg1 v).layout = b.layout := rfl
@[simp] theorem Block.setArg1_reading (b : Block) (v : Half) : (b.setArg1 v).reading = b.reading := rfl
@[simp] theorem Block.setArg1_rdValid (b : Block) (v : Half) : (b.setArg1 v).rdValid = b.rdValid := rfl
@[simp] theorem Block.setArg1_err (b : Block) (v : Half) : (b.setArg1 v).err = b.err := rfl
@[simp] theorem Block.setArg1_cause (b : Block) (v : Half) : (b.setArg1 v).cause = b.cause := rfl
@[simp] theorem Block.setArg1_crcMatch (b : Block) (v : Half) : (b.setArg1 v).crcMatch = b.crcMatch := rfl
@[simp] theorem Block.setArg1_sticky (b : Block) (v : Half) : (b.setArg1 v).sticky = b.sticky := rfl

@[simp] theorem Block.setResult_crc (b : Block) (v : Half) : (b.setResult v).crc = b.crc := rfl
@[simp] theorem Block.setResult_arg0 (b : Block) (v : Half) : (b.setResult v).arg0 = b.arg0 := rfl
@[simp] theorem Block.setResult_arg1 (b : Block) (v : Half) : (b.setResult v).arg1 = b.arg1 := rfl
@[simp] theorem Block.setResult_result (b : Block) (v : Half) : (b.setResult v).result = v := rfl
@[simp] theorem Block.setResult_tx (b : Block) (v : Half) : (b.setResult v).tx = b.tx := rfl
@[simp] theorem Block.setResult_txValid (b : Block) (v : Half) : (b.setResult v).txValid = b.txValid := rfl
@[simp] theorem Block.setResult_rx (b : Block) (v : Half) : (b.setResult v).rx = b.rx := rfl
@[simp] theorem Block.setResult_rxOvf (b : Block) (v : Half) : (b.setResult v).rxOvf = b.rxOvf := rfl
@[simp] theorem Block.setResult_map (b : Block) (v : Half) : (b.setResult v).map = b.map := rfl
@[simp] theorem Block.setResult_mapValid (b : Block) (v : Half) : (b.setResult v).mapValid = b.mapValid := rfl
@[simp] theorem Block.setResult_layout (b : Block) (v : Half) : (b.setResult v).layout = b.layout := rfl
@[simp] theorem Block.setResult_reading (b : Block) (v : Half) : (b.setResult v).reading = b.reading := rfl
@[simp] theorem Block.setResult_rdValid (b : Block) (v : Half) : (b.setResult v).rdValid = b.rdValid := rfl
@[simp] theorem Block.setResult_err (b : Block) (v : Half) : (b.setResult v).err = b.err := rfl
@[simp] theorem Block.setResult_cause (b : Block) (v : Half) : (b.setResult v).cause = b.cause := rfl
@[simp] theorem Block.setResult_crcMatch (b : Block) (v : Half) : (b.setResult v).crcMatch = b.crcMatch := rfl
@[simp] theorem Block.setResult_sticky (b : Block) (v : Half) : (b.setResult v).sticky = b.sticky := rfl

@[simp] theorem Block.setTx_crc (b : Block) (v : Vector Byte 8) : (b.setTx v).crc = b.crc := rfl
@[simp] theorem Block.setTx_arg0 (b : Block) (v : Vector Byte 8) : (b.setTx v).arg0 = b.arg0 := rfl
@[simp] theorem Block.setTx_arg1 (b : Block) (v : Vector Byte 8) : (b.setTx v).arg1 = b.arg1 := rfl
@[simp] theorem Block.setTx_result (b : Block) (v : Vector Byte 8) : (b.setTx v).result = b.result := rfl
@[simp] theorem Block.setTx_tx (b : Block) (v : Vector Byte 8) : (b.setTx v).tx = v := rfl
@[simp] theorem Block.setTx_txValid (b : Block) (v : Vector Byte 8) : (b.setTx v).txValid = b.txValid := rfl
@[simp] theorem Block.setTx_rx (b : Block) (v : Vector Byte 8) : (b.setTx v).rx = b.rx := rfl
@[simp] theorem Block.setTx_rxOvf (b : Block) (v : Vector Byte 8) : (b.setTx v).rxOvf = b.rxOvf := rfl
@[simp] theorem Block.setTx_map (b : Block) (v : Vector Byte 8) : (b.setTx v).map = b.map := rfl
@[simp] theorem Block.setTx_mapValid (b : Block) (v : Vector Byte 8) : (b.setTx v).mapValid = b.mapValid := rfl
@[simp] theorem Block.setTx_layout (b : Block) (v : Vector Byte 8) : (b.setTx v).layout = b.layout := rfl
@[simp] theorem Block.setTx_reading (b : Block) (v : Vector Byte 8) : (b.setTx v).reading = b.reading := rfl
@[simp] theorem Block.setTx_rdValid (b : Block) (v : Vector Byte 8) : (b.setTx v).rdValid = b.rdValid := rfl
@[simp] theorem Block.setTx_err (b : Block) (v : Vector Byte 8) : (b.setTx v).err = b.err := rfl
@[simp] theorem Block.setTx_cause (b : Block) (v : Vector Byte 8) : (b.setTx v).cause = b.cause := rfl
@[simp] theorem Block.setTx_crcMatch (b : Block) (v : Vector Byte 8) : (b.setTx v).crcMatch = b.crcMatch := rfl
@[simp] theorem Block.setTx_sticky (b : Block) (v : Vector Byte 8) : (b.setTx v).sticky = b.sticky := rfl

@[simp] theorem Block.setTxValid_crc (b : Block) (v : Bool) : (b.setTxValid v).crc = b.crc := rfl
@[simp] theorem Block.setTxValid_arg0 (b : Block) (v : Bool) : (b.setTxValid v).arg0 = b.arg0 := rfl
@[simp] theorem Block.setTxValid_arg1 (b : Block) (v : Bool) : (b.setTxValid v).arg1 = b.arg1 := rfl
@[simp] theorem Block.setTxValid_result (b : Block) (v : Bool) : (b.setTxValid v).result = b.result := rfl
@[simp] theorem Block.setTxValid_tx (b : Block) (v : Bool) : (b.setTxValid v).tx = b.tx := rfl
@[simp] theorem Block.setTxValid_txValid (b : Block) (v : Bool) : (b.setTxValid v).txValid = v := rfl
@[simp] theorem Block.setTxValid_rx (b : Block) (v : Bool) : (b.setTxValid v).rx = b.rx := rfl
@[simp] theorem Block.setTxValid_rxOvf (b : Block) (v : Bool) : (b.setTxValid v).rxOvf = b.rxOvf := rfl
@[simp] theorem Block.setTxValid_map (b : Block) (v : Bool) : (b.setTxValid v).map = b.map := rfl
@[simp] theorem Block.setTxValid_mapValid (b : Block) (v : Bool) : (b.setTxValid v).mapValid = b.mapValid := rfl
@[simp] theorem Block.setTxValid_layout (b : Block) (v : Bool) : (b.setTxValid v).layout = b.layout := rfl
@[simp] theorem Block.setTxValid_reading (b : Block) (v : Bool) : (b.setTxValid v).reading = b.reading := rfl
@[simp] theorem Block.setTxValid_rdValid (b : Block) (v : Bool) : (b.setTxValid v).rdValid = b.rdValid := rfl
@[simp] theorem Block.setTxValid_err (b : Block) (v : Bool) : (b.setTxValid v).err = b.err := rfl
@[simp] theorem Block.setTxValid_cause (b : Block) (v : Bool) : (b.setTxValid v).cause = b.cause := rfl
@[simp] theorem Block.setTxValid_crcMatch (b : Block) (v : Bool) : (b.setTxValid v).crcMatch = b.crcMatch := rfl
@[simp] theorem Block.setTxValid_sticky (b : Block) (v : Bool) : (b.setTxValid v).sticky = b.sticky := rfl

@[simp] theorem Block.setRx_crc (b : Block) (v : List Byte) : (b.setRx v).crc = b.crc := rfl
@[simp] theorem Block.setRx_arg0 (b : Block) (v : List Byte) : (b.setRx v).arg0 = b.arg0 := rfl
@[simp] theorem Block.setRx_arg1 (b : Block) (v : List Byte) : (b.setRx v).arg1 = b.arg1 := rfl
@[simp] theorem Block.setRx_result (b : Block) (v : List Byte) : (b.setRx v).result = b.result := rfl
@[simp] theorem Block.setRx_tx (b : Block) (v : List Byte) : (b.setRx v).tx = b.tx := rfl
@[simp] theorem Block.setRx_txValid (b : Block) (v : List Byte) : (b.setRx v).txValid = b.txValid := rfl
@[simp] theorem Block.setRx_rx (b : Block) (v : List Byte) : (b.setRx v).rx = v := rfl
@[simp] theorem Block.setRx_rxOvf (b : Block) (v : List Byte) : (b.setRx v).rxOvf = b.rxOvf := rfl
@[simp] theorem Block.setRx_map (b : Block) (v : List Byte) : (b.setRx v).map = b.map := rfl
@[simp] theorem Block.setRx_mapValid (b : Block) (v : List Byte) : (b.setRx v).mapValid = b.mapValid := rfl
@[simp] theorem Block.setRx_layout (b : Block) (v : List Byte) : (b.setRx v).layout = b.layout := rfl
@[simp] theorem Block.setRx_reading (b : Block) (v : List Byte) : (b.setRx v).reading = b.reading := rfl
@[simp] theorem Block.setRx_rdValid (b : Block) (v : List Byte) : (b.setRx v).rdValid = b.rdValid := rfl
@[simp] theorem Block.setRx_err (b : Block) (v : List Byte) : (b.setRx v).err = b.err := rfl
@[simp] theorem Block.setRx_cause (b : Block) (v : List Byte) : (b.setRx v).cause = b.cause := rfl
@[simp] theorem Block.setRx_crcMatch (b : Block) (v : List Byte) : (b.setRx v).crcMatch = b.crcMatch := rfl
@[simp] theorem Block.setRx_sticky (b : Block) (v : List Byte) : (b.setRx v).sticky = b.sticky := rfl

@[simp] theorem Block.setRxOvf_crc (b : Block) (v : Bool) : (b.setRxOvf v).crc = b.crc := rfl
@[simp] theorem Block.setRxOvf_arg0 (b : Block) (v : Bool) : (b.setRxOvf v).arg0 = b.arg0 := rfl
@[simp] theorem Block.setRxOvf_arg1 (b : Block) (v : Bool) : (b.setRxOvf v).arg1 = b.arg1 := rfl
@[simp] theorem Block.setRxOvf_result (b : Block) (v : Bool) : (b.setRxOvf v).result = b.result := rfl
@[simp] theorem Block.setRxOvf_tx (b : Block) (v : Bool) : (b.setRxOvf v).tx = b.tx := rfl
@[simp] theorem Block.setRxOvf_txValid (b : Block) (v : Bool) : (b.setRxOvf v).txValid = b.txValid := rfl
@[simp] theorem Block.setRxOvf_rx (b : Block) (v : Bool) : (b.setRxOvf v).rx = b.rx := rfl
@[simp] theorem Block.setRxOvf_rxOvf (b : Block) (v : Bool) : (b.setRxOvf v).rxOvf = v := rfl
@[simp] theorem Block.setRxOvf_map (b : Block) (v : Bool) : (b.setRxOvf v).map = b.map := rfl
@[simp] theorem Block.setRxOvf_mapValid (b : Block) (v : Bool) : (b.setRxOvf v).mapValid = b.mapValid := rfl
@[simp] theorem Block.setRxOvf_layout (b : Block) (v : Bool) : (b.setRxOvf v).layout = b.layout := rfl
@[simp] theorem Block.setRxOvf_reading (b : Block) (v : Bool) : (b.setRxOvf v).reading = b.reading := rfl
@[simp] theorem Block.setRxOvf_rdValid (b : Block) (v : Bool) : (b.setRxOvf v).rdValid = b.rdValid := rfl
@[simp] theorem Block.setRxOvf_err (b : Block) (v : Bool) : (b.setRxOvf v).err = b.err := rfl
@[simp] theorem Block.setRxOvf_cause (b : Block) (v : Bool) : (b.setRxOvf v).cause = b.cause := rfl
@[simp] theorem Block.setRxOvf_crcMatch (b : Block) (v : Bool) : (b.setRxOvf v).crcMatch = b.crcMatch := rfl
@[simp] theorem Block.setRxOvf_sticky (b : Block) (v : Bool) : (b.setRxOvf v).sticky = b.sticky := rfl

@[simp] theorem Block.setMap_crc (b : Block) (m : List Half) (v : Bool) : (b.setMap m v).crc = b.crc := rfl
@[simp] theorem Block.setMap_arg0 (b : Block) (m : List Half) (v : Bool) : (b.setMap m v).arg0 = b.arg0 := rfl
@[simp] theorem Block.setMap_arg1 (b : Block) (m : List Half) (v : Bool) : (b.setMap m v).arg1 = b.arg1 := rfl
@[simp] theorem Block.setMap_result (b : Block) (m : List Half) (v : Bool) : (b.setMap m v).result = b.result := rfl
@[simp] theorem Block.setMap_tx (b : Block) (m : List Half) (v : Bool) : (b.setMap m v).tx = b.tx := rfl
@[simp] theorem Block.setMap_txValid (b : Block) (m : List Half) (v : Bool) : (b.setMap m v).txValid = b.txValid :=
    rfl
@[simp] theorem Block.setMap_rx (b : Block) (m : List Half) (v : Bool) : (b.setMap m v).rx = b.rx := rfl
@[simp] theorem Block.setMap_rxOvf (b : Block) (m : List Half) (v : Bool) : (b.setMap m v).rxOvf = b.rxOvf := rfl
@[simp] theorem Block.setMap_map (b : Block) (m : List Half) (v : Bool) : (b.setMap m v).map = m := rfl
@[simp] theorem Block.setMap_mapValid (b : Block) (m : List Half) (v : Bool) : (b.setMap m v).mapValid = v := rfl
@[simp] theorem Block.setMap_layout (b : Block) (m : List Half) (v : Bool) : (b.setMap m v).layout = b.layout := rfl
@[simp] theorem Block.setMap_reading (b : Block) (m : List Half) (v : Bool) : (b.setMap m v).reading = b.reading :=
    rfl
@[simp] theorem Block.setMap_rdValid (b : Block) (m : List Half) (v : Bool) : (b.setMap m v).rdValid = b.rdValid :=
    rfl
@[simp] theorem Block.setMap_err (b : Block) (m : List Half) (v : Bool) : (b.setMap m v).err = b.err := rfl
@[simp] theorem Block.setMap_cause (b : Block) (m : List Half) (v : Bool) : (b.setMap m v).cause = b.cause := rfl
@[simp] theorem Block.setMap_crcMatch (b : Block) (m : List Half) (v : Bool) : (b.setMap m v).crcMatch = b.crcMatch :=
    rfl
@[simp] theorem Block.setMap_sticky (b : Block) (m : List Half) (v : Bool) : (b.setMap m v).sticky = b.sticky := rfl

@[simp] theorem Block.setSlot_crc (b : Block) (k : Fin 32) (l : Slot) : (b.setSlot k l).crc = b.crc := rfl
@[simp] theorem Block.setSlot_arg0 (b : Block) (k : Fin 32) (l : Slot) : (b.setSlot k l).arg0 = b.arg0 := rfl
@[simp] theorem Block.setSlot_arg1 (b : Block) (k : Fin 32) (l : Slot) : (b.setSlot k l).arg1 = b.arg1 := rfl
@[simp] theorem Block.setSlot_result (b : Block) (k : Fin 32) (l : Slot) : (b.setSlot k l).result = b.result := rfl
@[simp] theorem Block.setSlot_tx (b : Block) (k : Fin 32) (l : Slot) : (b.setSlot k l).tx = b.tx := rfl
@[simp] theorem Block.setSlot_txValid (b : Block) (k : Fin 32) (l : Slot) : (b.setSlot k l).txValid = b.txValid := rfl
@[simp] theorem Block.setSlot_rx (b : Block) (k : Fin 32) (l : Slot) : (b.setSlot k l).rx = b.rx := rfl
@[simp] theorem Block.setSlot_rxOvf (b : Block) (k : Fin 32) (l : Slot) : (b.setSlot k l).rxOvf = b.rxOvf := rfl
@[simp] theorem Block.setSlot_map (b : Block) (k : Fin 32) (l : Slot) : (b.setSlot k l).map = b.map := rfl
@[simp] theorem Block.setSlot_mapValid (b : Block) (k : Fin 32) (l : Slot) : (b.setSlot k l).mapValid = b.mapValid :=
    rfl
@[simp] theorem Block.setSlot_layout (b : Block) (k : Fin 32) (l : Slot) : (b.setSlot k l).layout = b.layout.set k l :=
    rfl
@[simp] theorem Block.setSlot_reading (b : Block) (k : Fin 32) (l : Slot) : (b.setSlot k l).reading = b.reading := rfl
@[simp] theorem Block.setSlot_rdValid (b : Block) (k : Fin 32) (l : Slot) : (b.setSlot k l).rdValid = b.rdValid := rfl
@[simp] theorem Block.setSlot_err (b : Block) (k : Fin 32) (l : Slot) : (b.setSlot k l).err = b.err := rfl
@[simp] theorem Block.setSlot_cause (b : Block) (k : Fin 32) (l : Slot) : (b.setSlot k l).cause = b.cause := rfl
@[simp] theorem Block.setSlot_crcMatch (b : Block) (k : Fin 32) (l : Slot) : (b.setSlot k l).crcMatch = b.crcMatch :=
    rfl
@[simp] theorem Block.setSlot_sticky (b : Block) (k : Fin 32) (l : Slot) : (b.setSlot k l).sticky = b.sticky := rfl

@[simp] theorem Block.setReadings_crc (b : Block) (r : Vector (Option Half) 32) (v : Bool) : (b.setReadings r v).crc = b.crc :=
    rfl
@[simp] theorem Block.setReadings_arg0 (b : Block) (r : Vector (Option Half) 32) (v : Bool) : (b.setReadings r v).arg0 = b.arg0 :=
    rfl
@[simp] theorem Block.setReadings_arg1 (b : Block) (r : Vector (Option Half) 32) (v : Bool) : (b.setReadings r v).arg1 = b.arg1 :=
    rfl
@[simp] theorem Block.setReadings_result (b : Block) (r : Vector (Option Half) 32) (v : Bool) : (b.setReadings r v).result = b.result :=
    rfl
@[simp] theorem Block.setReadings_tx (b : Block) (r : Vector (Option Half) 32) (v : Bool) : (b.setReadings r v).tx = b.tx :=
    rfl
@[simp] theorem Block.setReadings_txValid (b : Block) (r : Vector (Option Half) 32) (v : Bool) : (b.setReadings r v).txValid = b.txValid :=
    rfl
@[simp] theorem Block.setReadings_rx (b : Block) (r : Vector (Option Half) 32) (v : Bool) : (b.setReadings r v).rx = b.rx :=
    rfl
@[simp] theorem Block.setReadings_rxOvf (b : Block) (r : Vector (Option Half) 32) (v : Bool) : (b.setReadings r v).rxOvf = b.rxOvf :=
    rfl
@[simp] theorem Block.setReadings_map (b : Block) (r : Vector (Option Half) 32) (v : Bool) : (b.setReadings r v).map = b.map :=
    rfl
@[simp] theorem Block.setReadings_mapValid (b : Block) (r : Vector (Option Half) 32) (v : Bool) : (b.setReadings r v).mapValid = b.mapValid :=
    rfl
@[simp] theorem Block.setReadings_layout (b : Block) (r : Vector (Option Half) 32) (v : Bool) : (b.setReadings r v).layout = b.layout :=
    rfl
@[simp] theorem Block.setReadings_reading (b : Block) (r : Vector (Option Half) 32) (v : Bool) : (b.setReadings r v).reading = r :=
    rfl
@[simp] theorem Block.setReadings_rdValid (b : Block) (r : Vector (Option Half) 32) (v : Bool) : (b.setReadings r v).rdValid = v :=
    rfl
@[simp] theorem Block.setReadings_err (b : Block) (r : Vector (Option Half) 32) (v : Bool) : (b.setReadings r v).err = b.err :=
    rfl
@[simp] theorem Block.setReadings_cause (b : Block) (r : Vector (Option Half) 32) (v : Bool) : (b.setReadings r v).cause = b.cause :=
    rfl
@[simp] theorem Block.setReadings_crcMatch (b : Block) (r : Vector (Option Half) 32) (v : Bool) : (b.setReadings r v).crcMatch = b.crcMatch :=
    rfl
@[simp] theorem Block.setReadings_sticky (b : Block) (r : Vector (Option Half) 32) (v : Bool) : (b.setReadings r v).sticky = b.sticky :=
    rfl

@[simp] theorem Block.setCrcMatch_crc (b : Block) (v : Bool) : (b.setCrcMatch v).crc = b.crc := rfl
@[simp] theorem Block.setCrcMatch_arg0 (b : Block) (v : Bool) : (b.setCrcMatch v).arg0 = b.arg0 := rfl
@[simp] theorem Block.setCrcMatch_arg1 (b : Block) (v : Bool) : (b.setCrcMatch v).arg1 = b.arg1 := rfl
@[simp] theorem Block.setCrcMatch_result (b : Block) (v : Bool) : (b.setCrcMatch v).result = b.result := rfl
@[simp] theorem Block.setCrcMatch_tx (b : Block) (v : Bool) : (b.setCrcMatch v).tx = b.tx := rfl
@[simp] theorem Block.setCrcMatch_txValid (b : Block) (v : Bool) : (b.setCrcMatch v).txValid = b.txValid := rfl
@[simp] theorem Block.setCrcMatch_rx (b : Block) (v : Bool) : (b.setCrcMatch v).rx = b.rx := rfl
@[simp] theorem Block.setCrcMatch_rxOvf (b : Block) (v : Bool) : (b.setCrcMatch v).rxOvf = b.rxOvf := rfl
@[simp] theorem Block.setCrcMatch_map (b : Block) (v : Bool) : (b.setCrcMatch v).map = b.map := rfl
@[simp] theorem Block.setCrcMatch_mapValid (b : Block) (v : Bool) : (b.setCrcMatch v).mapValid = b.mapValid := rfl
@[simp] theorem Block.setCrcMatch_layout (b : Block) (v : Bool) : (b.setCrcMatch v).layout = b.layout := rfl
@[simp] theorem Block.setCrcMatch_reading (b : Block) (v : Bool) : (b.setCrcMatch v).reading = b.reading := rfl
@[simp] theorem Block.setCrcMatch_rdValid (b : Block) (v : Bool) : (b.setCrcMatch v).rdValid = b.rdValid := rfl
@[simp] theorem Block.setCrcMatch_err (b : Block) (v : Bool) : (b.setCrcMatch v).err = b.err := rfl
@[simp] theorem Block.setCrcMatch_cause (b : Block) (v : Bool) : (b.setCrcMatch v).cause = b.cause := rfl
@[simp] theorem Block.setCrcMatch_crcMatch (b : Block) (v : Bool) : (b.setCrcMatch v).crcMatch = v := rfl
@[simp] theorem Block.setCrcMatch_sticky (b : Block) (v : Bool) : (b.setCrcMatch v).sticky = b.sticky := rfl

@[simp] theorem Block.setSticky_crc (b : Block) (v : BitVec 5) : (b.setSticky v).crc = b.crc := rfl
@[simp] theorem Block.setSticky_arg0 (b : Block) (v : BitVec 5) : (b.setSticky v).arg0 = b.arg0 := rfl
@[simp] theorem Block.setSticky_arg1 (b : Block) (v : BitVec 5) : (b.setSticky v).arg1 = b.arg1 := rfl
@[simp] theorem Block.setSticky_result (b : Block) (v : BitVec 5) : (b.setSticky v).result = b.result := rfl
@[simp] theorem Block.setSticky_tx (b : Block) (v : BitVec 5) : (b.setSticky v).tx = b.tx := rfl
@[simp] theorem Block.setSticky_txValid (b : Block) (v : BitVec 5) : (b.setSticky v).txValid = b.txValid := rfl
@[simp] theorem Block.setSticky_rx (b : Block) (v : BitVec 5) : (b.setSticky v).rx = b.rx := rfl
@[simp] theorem Block.setSticky_rxOvf (b : Block) (v : BitVec 5) : (b.setSticky v).rxOvf = b.rxOvf := rfl
@[simp] theorem Block.setSticky_map (b : Block) (v : BitVec 5) : (b.setSticky v).map = b.map := rfl
@[simp] theorem Block.setSticky_mapValid (b : Block) (v : BitVec 5) : (b.setSticky v).mapValid = b.mapValid := rfl
@[simp] theorem Block.setSticky_layout (b : Block) (v : BitVec 5) : (b.setSticky v).layout = b.layout := rfl
@[simp] theorem Block.setSticky_reading (b : Block) (v : BitVec 5) : (b.setSticky v).reading = b.reading := rfl
@[simp] theorem Block.setSticky_rdValid (b : Block) (v : BitVec 5) : (b.setSticky v).rdValid = b.rdValid := rfl
@[simp] theorem Block.setSticky_err (b : Block) (v : BitVec 5) : (b.setSticky v).err = b.err := rfl
@[simp] theorem Block.setSticky_cause (b : Block) (v : BitVec 5) : (b.setSticky v).cause = b.cause := rfl
@[simp] theorem Block.setSticky_crcMatch (b : Block) (v : BitVec 5) : (b.setSticky v).crcMatch = b.crcMatch := rfl
@[simp] theorem Block.setSticky_sticky (b : Block) (v : BitVec 5) : (b.setSticky v).sticky = v := rfl

@[simp] theorem Block.setErr_crc (b : Block) (e : ErrCode) (c : Cause) : (b.setErr e c).crc = b.crc := rfl
@[simp] theorem Block.setErr_arg0 (b : Block) (e : ErrCode) (c : Cause) : (b.setErr e c).arg0 = b.arg0 := rfl
@[simp] theorem Block.setErr_arg1 (b : Block) (e : ErrCode) (c : Cause) : (b.setErr e c).arg1 = b.arg1 := rfl
@[simp] theorem Block.setErr_result (b : Block) (e : ErrCode) (c : Cause) : (b.setErr e c).result = b.result := rfl
@[simp] theorem Block.setErr_tx (b : Block) (e : ErrCode) (c : Cause) : (b.setErr e c).tx = b.tx := rfl
@[simp] theorem Block.setErr_txValid (b : Block) (e : ErrCode) (c : Cause) : (b.setErr e c).txValid = b.txValid := rfl
@[simp] theorem Block.setErr_rx (b : Block) (e : ErrCode) (c : Cause) : (b.setErr e c).rx = b.rx := rfl
@[simp] theorem Block.setErr_rxOvf (b : Block) (e : ErrCode) (c : Cause) : (b.setErr e c).rxOvf = b.rxOvf := rfl
@[simp] theorem Block.setErr_map (b : Block) (e : ErrCode) (c : Cause) : (b.setErr e c).map = b.map := rfl
@[simp] theorem Block.setErr_mapValid (b : Block) (e : ErrCode) (c : Cause) : (b.setErr e c).mapValid = b.mapValid :=
    rfl
@[simp] theorem Block.setErr_layout (b : Block) (e : ErrCode) (c : Cause) : (b.setErr e c).layout = b.layout := rfl
@[simp] theorem Block.setErr_reading (b : Block) (e : ErrCode) (c : Cause) : (b.setErr e c).reading = b.reading := rfl
@[simp] theorem Block.setErr_rdValid (b : Block) (e : ErrCode) (c : Cause) : (b.setErr e c).rdValid = b.rdValid := rfl
@[simp] theorem Block.setErr_err (b : Block) (e : ErrCode) (c : Cause) : (b.setErr e c).err = e := rfl
@[simp] theorem Block.setErr_cause (b : Block) (e : ErrCode) (c : Cause) : (b.setErr e c).cause = if e = .malformed then c else Cause.clear :=
    rfl
@[simp] theorem Block.setErr_crcMatch (b : Block) (e : ErrCode) (c : Cause) : (b.setErr e c).crcMatch = b.crcMatch :=
    rfl
@[simp] theorem Block.setErr_sticky (b : Block) (e : ErrCode) (c : Cause) : (b.setErr e c).sticky = b.sticky ||| e.stickyBit :=
    rfl

@[simp] theorem State.accept_cfg (s : State) (rest : List HostEvent) : (s.accept rest).cfg = s.cfg := rfl
@[simp] theorem State.accept_block (s : State) (rest : List HostEvent) : (s.accept rest).block = s.block := rfl
@[simp] theorem State.accept_port (s : State) (rest : List HostEvent) : (s.accept rest).port = { program := rest, response := none } :=
    rfl

@[simp] theorem State.resetInput_cfg (s : State) (rest : List HostEvent) : (s.resetInput rest).cfg = s.cfg := rfl
@[simp] theorem State.resetInput_block (s : State) (rest : List HostEvent) : (s.resetInput rest).block = Block.reset :=
    rfl
@[simp] theorem State.resetInput_port (s : State) (rest : List HostEvent) : (s.resetInput rest).port = { program := rest, response := none } :=
    rfl

end Sys2Proof.Machine
end

