-- ==== Sys2Proof/Laws/Ops.lean ====
section
/-! SUPPORT. What each shared operation can answer, and what a step can be: cited instead of unfolding them. -/

namespace Sys2Proof.Machine

/-- A write answers one next state: the block replaced, all else kept. -/
theorem State.write_eq_next_iff (s t : State) (b : Block) : s.write b = .next t ↔ t = { s with block := b } := by
  simp [State.write, eq_comm]

/-- A write is no fault. -/
theorem State.write_ne_fault (s : State) (b : Block) (f : Fault) : s.write b ≠ .fault f := by
  simp [State.write]

/-- A write is no refusal. -/
theorem State.write_ne_refused (s : State) (b : Block) (r : Refusal) : s.write b ≠ .refused r := by
  simp [State.write]

/-- A read answers one next state: the response set, all else kept. -/
theorem State.read_eq_next_iff (s t : State) (w : Word) :
    s.read w = .next t ↔ t = { s with port := { s.port with response := some w } } := by
  simp [State.read, eq_comm]

/-- A read is no fault. -/
theorem State.read_ne_fault (s : State) (w : Word) (f : Fault) : s.read w ≠ .fault f := by
  simp [State.read]

/-- A read is no refusal. -/
theorem State.read_ne_refused (s : State) (w : Word) (r : Refusal) : s.read w ≠ .refused r := by
  simp [State.read]

/-- A bus error is no next state. -/
theorem busFault_ne_next (w : Bool) (sz : BitVec 2) (a : Addr) (t : State) : busFault w sz a ≠ .next t := by
  simp [busFault]

/-- A bus error is no refusal. -/
theorem busFault_ne_refused (w : Bool) (sz : BitVec 2) (a : Addr) (r : Refusal) : busFault w sz a ≠ .refused r := by
  simp [busFault]

/-- A success sets no sticky bit. -/
@[simp] theorem stickyBit_ok : ErrCode.ok.stickyBit = 0b00000#5 := rfl

/-- Everything a step that answers a next state can be. -/
theorem step_cases {s t : State} (h : step s = .next t) :
    (s.port.program = [] ∧ t = s) ∨
    (∃ rest, s.port.program = .reset :: rest ∧ t = s.resetInput rest) ∨
    (∃ w rest i, s.port.program = .transaction w :: rest ∧ decodeWord s.cfg w = .ok i ∧
      exec i (s.accept rest) = .next t) := by
  unfold step at h
  split at h
  · next hp => left; exact ⟨hp, by simpa [eq_comm] using h⟩
  · next rest hp => right; left; exact ⟨rest, hp, by simpa [eq_comm] using h⟩
  · next w rest hp =>
    right; right
    split at h
    · next i hd => exact ⟨w, rest, i, hp, hd, h⟩
    · exact absurd h (busFault_ne_next _ _ _ _)

end Sys2Proof.Machine
end

