-- ==== Sys2Proof/Laws/Exec.lean ====
section
/-! SUPPORT. What `exec` can answer, said once for all operations: a next state whose block is `effect` of the block
before, whose parameters and host program are those before, or a bus error; never a refusal. -/

namespace Sys2Proof.Machine

/-- The block after an operation that completes; a register read leaves it. -/
def effect (p : Config.Params) (i : Instr) (b : Block) : Block :=
  match i with
  | .nop => b.setErr .ok
  | .crcInit => crcInit b
  | .crcByte => crcByte b
  | .crcCheckRx => crcCheckRx b
  | .buildReq => buildReq p b
  | .rxClear => rxClear b
  | .decode => decodeResponse b
  | .field => fieldAt b
  | .layoutCheck => layoutCheck p b
  | .extract => extractReadings p b
  | .clrSticky => clrSticky b
  | .illegalCmd _ => b.setErr .illegalCmd
  | .rdStatus => b
  | .rdCrc => b
  | .wrCrc data => b.setCrc (dataHalf data)
  | .rdArg0 => b
  | .wrArg0 data => b.setArg0 (dataHalf data)
  | .rdArg1 => b
  | .wrArg1 data => b.setArg1 (dataHalf data)
  | .rdResult => b
  | .rdRxLen => b
  | .wrRxData data => rxPush p (dataByte data) b
  | .rdMapCount => b
  | .rdParam0 => b
  | .rdParam1 => b
  | .rdTxW0 => b
  | .rdTxW1 => b
  | .rdLayout _ => b
  | .wrLayout k data => b.setSlot k (dataSlot data)
  | .rdReading _ => b

/-- Everything an operation's next state is: only a slot operation has a condition, that the slot exists. -/
theorem exec_next {i : Instr} {s t : State} (h : exec i s = .next t) :
    t.block = effect s.cfg i s.block ∧ t.cfg = s.cfg ∧ t.port.program = s.port.program ∧
      (∀ k data, i = .wrLayout k data → k.val < s.cfg.layoutSlots) := by
  cases i
  case rdLayout k | rdReading k =>
    simp only [exec, execRdLayout, execRdReading] at h
    split at h
    · obtain rfl := (State.read_eq_next_iff _ _ _).1 h; exact ⟨rfl, rfl, rfl, by simp⟩
    · exact absurd h (busFault_ne_next _ _ _ _)
  case wrLayout k data =>
    simp only [exec, execWrLayout] at h
    split at h
    · next hk =>
      obtain rfl := (State.write_eq_next_iff _ _ _).1 h
      exact ⟨rfl, rfl, rfl, by rintro _ _ ⟨⟩; exact hk⟩
    · exact absurd h (busFault_ne_next _ _ _ _)
  all_goals first
    | (obtain rfl := (State.write_eq_next_iff _ _ _).1 h; exact ⟨rfl, rfl, rfl, by simp⟩)
    | (obtain rfl := (State.read_eq_next_iff _ _ _).1 h; exact ⟨rfl, rfl, rfl, by simp⟩)

/-- No operation is refused. -/
theorem exec_ne_refused (i : Instr) (s : State) (r : Refusal) : exec i s ≠ .refused r := by
  cases i
  case rdLayout k | rdReading k | wrLayout k data =>
    simp only [exec, execRdLayout, execRdReading, execWrLayout]
    split <;> simp [State.read, State.write, busFault]
  all_goals first | exact State.write_ne_refused _ _ _ | exact State.read_ne_refused _ _ _

end Sys2Proof.Machine
end

