-- ==== Sys2Proof/Laws/PerInstr.lean ====
section
/-! SUPPORT. Laws stated per instruction. Family TransactionForm: the word of an operation has the accepted
size, an aligned address, and `W` exactly when the operation is no read (30_encoding.md R90, R92, R93). -/

namespace Sys2Proof.Laws.TransactionForm

/-- What the family says of an operation's word. -/
def Statement (i : Instr) : Prop :=
  transSz (encode i) = szWord ∧ (transAddr (encode i)).extractLsb' 0 2 = 0#2 ∧
    transW (encode i) = !decide (i.cls = .registerRead)

/-- A slot's address is aligned. -/
theorem layoutAddr_aligned (k : Fin 32) : (layoutAddr k).extractLsb' 0 2 = 0#2 := by
  revert k; decide

/-- A slot's address is aligned. -/
theorem readingAddr_aligned (k : Fin 32) : (readingAddr k).extractLsb' 0 2 = 0#2 := by
  revert k; decide

theorem nop : Statement .nop := by
  simp [Statement, encode, encodeCommand, Instr.cls]

theorem crcInit : Statement .crcInit := by
  simp [Statement, encode, encodeCommand, Instr.cls]

theorem crcByte : Statement .crcByte := by
  simp [Statement, encode, encodeCommand, Instr.cls]

theorem crcCheckRx : Statement .crcCheckRx := by
  simp [Statement, encode, encodeCommand, Instr.cls]

theorem buildReq : Statement .buildReq := by
  simp [Statement, encode, encodeCommand, Instr.cls]

theorem rxClear : Statement .rxClear := by
  simp [Statement, encode, encodeCommand, Instr.cls]

theorem decode : Statement .decode := by
  simp [Statement, encode, encodeCommand, Instr.cls]

theorem field : Statement .field := by
  simp [Statement, encode, encodeCommand, Instr.cls]

theorem layoutCheck : Statement .layoutCheck := by
  simp [Statement, encode, encodeCommand, Instr.cls]

theorem extract : Statement .extract := by
  simp [Statement, encode, encodeCommand, Instr.cls]

theorem clrSticky : Statement .clrSticky := by
  simp [Statement, encode, encodeCommand, Instr.cls]

theorem illegalCmd (data : Word) : Statement (.illegalCmd data) := by
  simp [Statement, encode, encodeCommand, Instr.cls]

theorem rdStatus : Statement .rdStatus := by
  simp [Statement, encode, Instr.cls]

theorem rdCrc : Statement .rdCrc := by
  simp [Statement, encode, Instr.cls]

theorem wrCrc (data : Word) : Statement (.wrCrc data) := by
  simp [Statement, encode, Instr.cls]

theorem rdArg0 : Statement .rdArg0 := by
  simp [Statement, encode, Instr.cls]

theorem wrArg0 (data : Word) : Statement (.wrArg0 data) := by
  simp [Statement, encode, Instr.cls]

theorem rdArg1 : Statement .rdArg1 := by
  simp [Statement, encode, Instr.cls]

theorem wrArg1 (data : Word) : Statement (.wrArg1 data) := by
  simp [Statement, encode, Instr.cls]

theorem rdResult : Statement .rdResult := by
  simp [Statement, encode, Instr.cls]

theorem rdRxLen : Statement .rdRxLen := by
  simp [Statement, encode, Instr.cls]

theorem wrRxData (data : Word) : Statement (.wrRxData data) := by
  simp [Statement, encode, Instr.cls]

theorem rdMapCount : Statement .rdMapCount := by
  simp [Statement, encode, Instr.cls]

theorem rdParam0 : Statement .rdParam0 := by
  simp [Statement, encode, Instr.cls]

theorem rdParam1 : Statement .rdParam1 := by
  simp [Statement, encode, Instr.cls]

theorem rdTxW0 : Statement .rdTxW0 := by
  simp [Statement, encode, Instr.cls]

theorem rdTxW1 : Statement .rdTxW1 := by
  simp [Statement, encode, Instr.cls]

theorem rdLayout (k : Fin 32) : Statement (.rdLayout k) := by
  simp [Statement, encode, Instr.cls, layoutAddr_aligned]

theorem wrLayout (k : Fin 32) (data : Word) : Statement (.wrLayout k data) := by
  simp [Statement, encode, Instr.cls, layoutAddr_aligned]

theorem rdReading (k : Fin 32) : Statement (.rdReading k) := by
  simp [Statement, encode, Instr.cls, readingAddr_aligned]

end Sys2Proof.Laws.TransactionForm
end

