-- ==== Sys2Proof/Tests/Slice0.lean ====
section
/-! SUPPORT. Tests with results taken from the spec (95_test_vectors.md names its vectors V-…, W…, P…), ill-formed
terms the checks of WellFormed refuse, and for every statement with hypotheses a state and operands that meet them
(`test_hyp_…`). -/

namespace Sys2Proof.Tests

open Sys2Proof.Machine Sys2Proof.Safety

/-! ### Small states -/

/-- The example configuration of 95_test_vectors.md. -/
def cfg8 : Config.Params := { maxCount := 125, rxCap := 256, layoutSlots := 8 }

/-- The configuration of V-D16, with the one layout slot 00_scope.md R6 asks for at least. -/
def cfg1 : Config.Params := { maxCount := 1, rxCap := 7, layoutSlots := 1 }

/-- A state with the block `b`, nothing sent by the host. -/
def at8 (b : Block) : State := { cfg := cfg8, block := b, port := { program := [], response := none } }

/-- The same with the configuration of V-D16. -/
def at1 (b : Block) : State := { cfg := cfg1, block := b, port := { program := [], response := none } }

/-- A state just reset, about to take what the host sends. -/
def sending (es : List HostEvent) : State :=
  { cfg := cfg8, block := Block.reset, port := { program := es, response := none } }

/-- The block after an operation that completes. -/
def blockAfter (i : Instr) (s : State) : Option Block :=
  match exec i s with
  | .next t => some t.block
  | _ => none

/-- The STATUS word after an operation that completes. -/
def statusAfter (i : Instr) (s : State) : Option Word := (blockAfter i s).map statusWord

/-- The word an operation returns. -/
def readBack (i : Instr) (s : State) : Option Word :=
  match exec i s with
  | .next t => t.port.response
  | _ => none

/-- The reset block with the operands `a0` and `a1`. -/
def withArgs (a0 a1 : Half) : Block := { Block.reset with arg0 := a0, arg1 := a1 }

/-- The reset block with the response buffer `rx` and the count `n`. -/
def withRx (rx : List Byte) (n : Half) : Block := { Block.reset with rx := rx, arg1 := n }

/-- The buffer of V-K5 and V-D1. -/
def oneRegister : List Byte := [0x01#8, 0x03#8, 0x02#8, 0x12#8, 0x34#8, 0xB5#8, 0x33#8]

/-- The 25 bytes of W2. -/
def w2Bytes : List Byte :=
  [0x01#8, 0x03#8, 0x14#8, 0x00#8, 0x32#8, 0x00#8, 0x00#8, 0x00#8, 0x00#8, 0x00#8, 0x50#8, 0x00#8, 0x00#8] ++
  [0x00#8, 0x00#8, 0x00#8, 0x00#8, 0x00#8, 0x4D#8, 0x00#8, 0x00#8, 0x00#8, 0x00#8, 0x79#8, 0x85#8]

/-- The LAYOUT words of W3, the reference layout. -/
def w3Words : List Word :=
  [0x80010000#32, 0x80020001#32, 0x80030002#32, 0x80040003#32] ++
  [0xC0000004#32, 0xC0000005#32, 0xC0000006#32, 0x80050007#32]

/-- The block after reset with the reference layout written. -/
def w3Block : Block := { Block.reset with layout := Vector.ofFn fun k => dataSlot (w3Words.getD k.val 0#32) }

/-- The starting block of V-F and V-E: the reference layout, and W2 decoded. -/
def w2Block : Block :=
  { w3Block with
    rx := w2Bytes, arg1 := 10#16, mapValid := true, crcMatch := true,
    map := [50#16, 0#16, 0#16, 80#16, 0#16, 0#16, 0#16, 77#16, 0#16, 0#16] }

/-! ### WellFormed refuses -/

/-- 30_encoding.md R95: 0x00000000 is NOP's word and 0x0000000A CLR_STICKY's, no illegal command's. -/
theorem test_illformed_legal_command :
    ¬ WellFormed cfg8 (.illegalCmd 0x00000000#32) ∧ ¬ WellFormed cfg8 (.illegalCmd 0x0000000A#32) := by decide

/-- 20_memory.md R62: slot 8 of eight does not exist. -/
theorem test_illformed_read_layout : ¬ WellFormed cfg8 (.rdLayout 8) := by decide

theorem test_illformed_write_layout : ¬ WellFormed cfg8 (.wrLayout 8 0x80050007#32) := by decide

theorem test_illformed_read_reading : ¬ WellFormed cfg8 (.rdReading 31) := by decide

/-- The last slot exists, and the first words after the commands are illegal (44_control.md R233). -/
theorem test_wellformed_limits :
    WellFormed cfg8 (.rdLayout 7) ∧ WellFormed cfg8 (.illegalCmd 0x0000000B#32) ∧
      WellFormed cfg8 (.illegalCmd 0x00000100#32) := by decide

/-! ### Decoding: a word of the spec for every constructor -/

/-- The words 40_crc.md R124 to R128 give. -/
theorem test_decode_crc :
    decodeWord cfg8 0x600000000001#47 = .ok .crcInit ∧ decodeWord cfg8 0x600000000002#47 = .ok .crcByte ∧
      decodeWord cfg8 0x600000000003#47 = .ok .crcCheckRx ∧ decodeWord cfg8 0x200800000000#47 = .ok .rdCrc ∧
      decodeWord cfg8 0x6008ABCD1234#47 = .ok (.wrCrc 0xABCD1234#32) := by
  refine ⟨?_, ?_, ?_, ?_, ?_⟩ <;> rfl

/-- The words 41_frame_build.md R151 to R156 give, and P1's `wr ARG0, 36` and `wr ARG1, 10`. -/
theorem test_decode_frame_build :
    decodeWord cfg8 0x600000000004#47 = .ok .buildReq ∧ decodeWord cfg8 0x204000000000#47 = .ok .rdTxW0 ∧
      decodeWord cfg8 0x204400000000#47 = .ok .rdTxW1 ∧ decodeWord cfg8 0x200C00000000#47 = .ok .rdArg0 ∧
      decodeWord cfg8 0x600C00000024#47 = .ok (.wrArg0 36#32) ∧
      decodeWord cfg8 0x201000000000#47 = .ok .rdArg1 ∧
      decodeWord cfg8 0x60100000000A#47 = .ok (.wrArg1 10#32) := by
  refine ⟨?_, ?_, ?_, ?_, ?_, ?_, ?_⟩ <;> rfl

/-- The words 42_frame_parse.md R171 to R184 give, and P3's `push 0xB5`. -/
theorem test_decode_frame_parse :
    decodeWord cfg8 0x600000000005#47 = .ok .rxClear ∧ decodeWord cfg8 0x600000000006#47 = .ok .decode ∧
      decodeWord cfg8 0x201800000000#47 = .ok .rdRxLen ∧
      decodeWord cfg8 0x601C000000B5#47 = .ok (.wrRxData 0xB5#32) ∧
      decodeWord cfg8 0x202000000000#47 = .ok .rdMapCount := by
  refine ⟨?_, ?_, ?_, ?_, ?_⟩ <;> rfl

/-- The words 43_register_extract.md R201 to R209 give, and P2's slot writes and reads. -/
theorem test_decode_register_extract :
    decodeWord cfg8 0x600000000007#47 = .ok .field ∧ decodeWord cfg8 0x600000000008#47 = .ok .layoutCheck ∧
      decodeWord cfg8 0x600000000009#47 = .ok .extract ∧ decodeWord cfg8 0x201400000000#47 = .ok .rdResult ∧
      decodeWord cfg8 0x208000000000#47 = .ok (.rdLayout 0) ∧
      decodeWord cfg8 0x609C80050007#47 = .ok (.wrLayout 7 0x80050007#32) ∧
      decodeWord cfg8 0x211C00000000#47 = .ok (.rdReading 7) := by
  refine ⟨?_, ?_, ?_, ?_, ?_, ?_, ?_⟩ <;> rfl

/-- The words 44_control.md R230 to R236 give, and P5's two illegal commands. -/
theorem test_decode_control :
    decodeWord cfg8 0x600000000000#47 = .ok .nop ∧ decodeWord cfg8 0x60000000000A#47 = .ok .clrSticky ∧
      decodeWord cfg8 0x60000000000B#47 = .ok (.illegalCmd 0x0B#32) ∧
      decodeWord cfg8 0x600000000106#47 = .ok (.illegalCmd 0x106#32) ∧
      decodeWord cfg8 0x200400000000#47 = .ok .rdStatus ∧ decodeWord cfg8 0x202400000000#47 = .ok .rdParam0 ∧
      decodeWord cfg8 0x202800000000#47 = .ok .rdParam1 := by
  refine ⟨?_, ?_, ?_, ?_, ?_, ?_, ?_⟩ <;> rfl

/-- V-X1 to V-X5: bus errors of direction, alignment and size. -/
theorem test_decode_bus_errors :
    decodeWord cfg8 0x200000000000#47 = .error .direction ∧ decodeWord cfg8 0x600400000000#47 = .error .direction ∧
      decodeWord cfg8 0x600200000000#47 = .error .misaligned ∧ decodeWord cfg8 0x100400000000#47 = .error .size ∧
      decodeWord cfg8 0x300400000000#47 = .error .size := by
  refine ⟨?_, ?_, ?_, ?_, ?_⟩ <;> rfl

/-- V-X6 to V-X9: bus errors of unmapped addresses and slots, and of a write to READING[0]. -/
theorem test_decode_bus_errors_unmapped :
    decodeWord cfg8 0x202C00000000#47 = .error .unmapped ∧ decodeWord cfg8 0x20A000000000#47 = .error .unmapped ∧
      decodeWord cfg8 0x610000000000#47 = .error .direction ∧ decodeWord cfg8 0x218000000000#47 = .error .unmapped := by
  refine ⟨?_, ?_, ?_, ?_⟩ <;> rfl

/-- The encoder gives the words of P1 and P2. -/
theorem test_encode_words :
    encode (.wrArg0 0x24#32) = 0x600C00000024#47 ∧ encode .buildReq = 0x600000000004#47 ∧
      encode .rdTxW1 = 0x204400000000#47 ∧ encode (.wrLayout 4 0xC0000004#32) = 0x6090C0000004#47 ∧
      encode (.rdReading 7) = 0x211C00000000#47 := by decide

/-- The table's numbers: slot 0 exists whatever the parameters are, and a number past 47 bits is no word. -/
theorem test_table_words :
    decodeTableWord 48 0x208000000000 = some (.rdLayout 0) ∧ decodeTableWord 48 0x600000000006 = some .decode ∧
      decodeTableWord 48 0x800000000000 = none := by
  refine ⟨?_, ?_, ?_⟩ <;> rfl

/-! ### The step -/

/-- P5's last remark and V-X1: reading CMD is a bus error. -/
theorem test_step_bus_error :
    step (sending [.transaction 0x200000000000#47]) = .fault (.busError false 0b10#2 0x000#12) := rfl

/-- From reset with a word put where the step takes it: V-S4's illegal command is the first operation. -/
theorem test_step_from_reset :
    step (State.reset.withFetchWord 48 0x60000000000B) = exec (.illegalCmd 0x0B#32) State.reset := rfl

/-- 70_reset_and_hazards.md R281: the reset input clears even the result and the history. -/
theorem test_step_reset_input :
    step { sending [.reset] with block := { w2Block with result := 77#16, sticky := 0b11111#5 } } =
      .next (sending []) := rfl

/-! ### The CRC family -/

/-- V-C1 to V-C7. -/
theorem test_crc_step_vectors :
    crcStep 0xFFFF#16 0x00#8 = 0x40BF#16 ∧ crcStep 0xFFFF#16 0x01#8 = 0x807E#16 ∧
      crcStep 0xFFFF#16 0x03#8 = 0x41FF#16 ∧ crcStep 0xFFFF#16 0xFF#8 = 0x00FF#16 ∧
      crcStep 0xFFFF#16 0x80#8 = 0xE0BE#16 ∧ crcStep 0x0000#16 0x00#8 = 0x0000#16 ∧
      crcStep 0x0000#16 0x01#8 = 0xC0C1#16 := by decide +kernel

/-- V-C9, the check value, and V-C10, the residue. -/
theorem test_crc16_vectors :
    crc16 0xFFFF#16 [0x31#8, 0x32#8, 0x33#8, 0x34#8, 0x35#8, 0x36#8, 0x37#8, 0x38#8, 0x39#8] = 0x4B37#16 ∧
      crc16 0xFFFF#16 [0x01#8, 0x03#8, 0x00#8, 0x24#8, 0x00#8, 0x0A#8, 0x85#8, 0xC6#8] = 0x0000#16 := by
  decide +kernel

/-- The example of 40_crc.md R124. -/
theorem test_crc_init :
    (blockAfter .crcInit (at8 { Block.reset with crc := 0x1234#16 })).map (·.crc) = some 0xFFFF#16 := by decide

/-- V-C11: bits 15:8 of ARG0 are ignored. -/
theorem test_crc_byte : (blockAfter .crcByte (at8 (withArgs 0x1201#16 0#16))).map (·.crc) = some 0x807E#16 := by
  decide +kernel

/-- V-K5. -/
theorem test_crc_check_rx :
    (blockAfter .crcCheckRx (at8 (withRx oneRegister 0#16))).map (fun b => (b.crc, statusWord b)) =
      some (0x33B5#16, 0x00000100#32) := by decide +kernel

/-- V-K2, V-K4: one byte leaves the generator, two zeros are no trailer of the empty body. -/
theorem test_crc_check_rx_fails :
    (blockAfter .crcCheckRx (at8 (withRx [0x00#8] 0#16))).map (fun b => (b.crc, statusWord b)) =
      some (0xFFFF#16, 0x00010021#32) ∧
    statusAfter .crcCheckRx (at8 (withRx [0x00#8, 0x00#8] 0#16)) = some 0x00010021#32 := by decide +kernel

/-- V-C13. -/
theorem test_rd_crc : readBack .rdCrc (at8 Block.reset) = some 0x0000FFFF#32 := by decide

/-- V-C12: the high half of DATA is ignored. -/
theorem test_wr_crc : (blockAfter (.wrCrc 0xABCD1234#32) (at8 Block.reset)).map (·.crc) = some 0x1234#16 := by decide

/-! ### The request frame -/

/-- V-B1, and the words P1 reads back. -/
theorem test_build_req :
    (blockAfter .buildReq (at8 (withArgs 36#16 10#16))).map (fun b => (txWord0 b.tx, txWord1 b.tx, statusWord b)) =
      some (0x24000301#32, 0xC6850A00#32, 0x00000200#32) := by decide +kernel

/-- V-B11: one more than MAX_COUNT, the frame kept. -/
theorem test_build_req_bad_param :
    (blockAfter .buildReq (at8 (withArgs 0#16 126#16))).map (fun b => (b.tx, statusWord b)) =
      some (Vector.replicate 8 0x00#8, 0x00040003#32) := by decide +kernel

/-- The example of 41_frame_build.md R152, the frame there whatever TX_VALID is. -/
theorem test_rd_tx_w0 :
    readBack .rdTxW0 (at8 { Block.reset with
      tx := #v[0x01#8, 0x03#8, 0x00#8, 0x24#8, 0x00#8, 0x0A#8, 0x85#8, 0xC6#8] }) = some 0x24000301#32 := by decide

theorem test_rd_tx_w1 :
    readBack .rdTxW1 (at8 { Block.reset with
      tx := #v[0x01#8, 0x03#8, 0x00#8, 0x24#8, 0x00#8, 0x0A#8, 0x85#8, 0xC6#8] }) = some 0xC6850A00#32 := by decide

/-- The examples of 41_frame_build.md R153 to R156. -/
theorem test_rd_arg0 : readBack .rdArg0 (at8 (withArgs 0x0024#16 0#16)) = some 0x00000024#32 := by decide

theorem test_wr_arg0 :
    (blockAfter (.wrArg0 0x00010024#32) (at8 Block.reset)).map (·.arg0) = some 0x0024#16 := by decide

theorem test_rd_arg1 : readBack .rdArg1 (at8 (withArgs 0#16 0x000A#16)) = some 0x0000000A#32 := by decide

/-- V-B12: 0x10000 is stored as 0. -/
theorem test_wr_arg1 :
    (blockAfter (.wrArg1 0x00010000#32) (at8 (withArgs 0#16 5#16))).map (·.arg1) = some 0x0000#16 := by decide

/-! ### The response buffer and DECODE -/

/-- 42_frame_parse.md R171: the overflow bit goes, its history and the map stay. -/
theorem test_rx_clear :
    (blockAfter .rxClear (at8 { w2Block with rxOvf := true, sticky := 0b10000#5 })).map
      (fun b => (b.rx, b.map.length, statusWord b)) = some ([], 10, 0x00100500#32) := by decide

/-- 42_frame_parse.md R172: only DATA[7:0] is pushed, after the bytes held. -/
theorem test_wr_rx_data :
    (blockAfter (.wrRxData 0x00000101#32) (at8 (withRx [0xAB#8] 0#16))).map (·.rx) = some [0xAB#8, 0x01#8] := by decide

/-- V-D16's eighth push: dropped, RX_OVF and STICKY bit 4 set, ERR not written. -/
theorem test_wr_rx_data_overflow :
    (blockAfter (.wrRxData 0x00#32) (at1 (withRx oneRegister 1#16))).map (fun b => (b.rx, statusWord b)) =
      some (oneRegister, 0x00101000#32) := by decide

/-- P2: 25 bytes held. -/
theorem test_rd_rx_len : readBack .rdRxLen (at8 (withRx w2Bytes 0#16)) = some 0x00000019#32 := by decide

/-- V-D4: the reference response. -/
theorem test_decode_reference :
    (blockAfter .decode (at8 (withRx w2Bytes 10#16))).map (fun b => (b.map, statusWord b)) =
      some ([50#16, 0#16, 0#16, 80#16, 0#16, 0#16, 0#16, 77#16, 0#16, 0#16], 0x00000500#32) := by decide +kernel

/-- V-D5 truncated, V-D8 and V-D9 with another count, V-D12 empty, V-D16 after an overflow. -/
theorem test_decode_malformed :
    statusAfter .decode (at8 (withRx (w2Bytes.take 24) 10#16)) = some 0x00010031#32 ∧
    statusAfter .decode (at8 (withRx w2Bytes 9#16)) = some 0x00010141#32 ∧
    statusAfter .decode (at8 (withRx w2Bytes 11#16)) = some 0x00010151#32 ∧
    statusAfter .decode (at8 (withRx [] 0#16)) = some 0x00010071#32 ∧
    statusAfter .decode (at1 { withRx oneRegister 1#16 with rxOvf := true, sticky := 0b10000#5 }) =
      some 0x00111181#32 := by decide +kernel

/-- P2: ten registers in the map. -/
theorem test_rd_map_count : readBack .rdMapCount (at8 w2Block) = some 0x0000000A#32 := by decide

/-! ### The register extractor -/

/-- V-F3. -/
theorem test_field :
    (blockAfter .field (at8 { w2Block with arg0 := 7#16 })).map (fun b => (b.result, statusWord b)) =
      some (0x004D#16, 0x00000500#32) := by decide

/-- V-F5: one past the map, RESULT kept. -/
theorem test_field_out_of_range :
    (blockAfter .field (at8 { w2Block with arg0 := 10#16, result := 0x0050#16 })).map
      (fun b => (b.result, statusWord b)) = some (0x0050#16, 0x00020502#32) := by decide

/-- The example of 43_register_extract.md R202. -/
theorem test_rd_result :
    readBack .rdResult (at8 { Block.reset with result := 0x1234#16 }) = some 0x00001234#32 := by decide

/-- The example of 43_register_extract.md R206. -/
theorem test_rd_layout : readBack (.rdLayout 7) (at8 w3Block) = some 0x80050007#32 := by decide

/-- 43_register_extract.md R207 and the masking line of 95_test_vectors.md section 2.4. -/
theorem test_wr_layout :
    (blockAfter (.wrLayout 0 0xFFFFFFFF#32) (at8 Block.reset)).map (fun b => slotWord b.layout[0]) =
      some 0xC0FFFFFF#32 := by decide

/-- V-L2, and V-L3: index 7 is outside a window of seven. -/
theorem test_layout_check :
    statusAfter .layoutCheck (at8 { w3Block with arg1 := 8#16 }) = some 0x00000000#32 ∧
      statusAfter .layoutCheck (at8 { w3Block with arg1 := 7#16 }) = some 0x00020002#32 := by decide +kernel

/-- V-E1 and V-E2. -/
theorem test_extract :
    (blockAfter .extract (at8 w2Block)).map (fun b => (b.reading[0], b.reading[3], b.reading[4], b.reading[7])) =
      some (some 50#16, some 80#16, none, some 77#16) ∧
    statusAfter .extract (at8 w2Block) = some 0x00000D00#32 := by decide +kernel

/-- V-E4 and V-E5: no map, and a map too short for the layout. -/
theorem test_extract_out_of_range :
    statusAfter .extract (at8 w3Block) = some 0x00020002#32 ∧
      statusAfter .extract (at8 { w2Block with map := [0x1234#16] }) = some 0x00020502#32 := by decide +kernel

/-- P2's reading words, and 43_register_extract.md R210: the name is the slot's at the time of the read. -/
theorem test_rd_reading :
    readBack (.rdReading 7) (at8 { w2Block with reading := (noReadings.set 7 (some 0x004D#16)) }) =
      some 0x8005004D#32 ∧
    readBack (.rdReading 4) (at8 w2Block) = some 0x00000000#32 := by decide

/-! ### Control and status -/

/-- V-S6: NOP clears ERR, not the history. -/
theorem test_nop :
    statusAfter .nop (at8 { Block.reset with err := .illegalCmd, sticky := 0b01100#5 }) = some 0x000C0000#32 := by
  decide

/-- The example of 44_control.md R231. -/
theorem test_clr_sticky :
    statusAfter .clrSticky (at8 { Block.reset with
      err := .malformed, cause := { Cause.clear with len := true }, sticky := 0b00001#5 }) =
      some 0x00000000#32 := by decide

/-- V-S4. -/
theorem test_illegal_cmd :
    statusAfter (.illegalCmd 0x0B#32) (at8 { Block.reset with err := .badParam, sticky := 0b00100#5 }) =
      some 0x000C0004#32 := by decide

/-- The STATUS word P4 reads after its truncated frame. -/
theorem test_rd_status :
    readBack .rdStatus (at8 { Block.reset with
      err := .malformed, cause := { Cause.clear with len := true, crc := true }, sticky := 0b00001#5 }) =
      some 0x00010031#32 := by decide

/-- V-S2. -/
theorem test_rd_param0 : readBack .rdParam0 (at8 Block.reset) = some 0x0100007D#32 := by decide

theorem test_rd_param1 : readBack .rdParam1 (at8 Block.reset) = some 0x00000008#32 := by decide

/-! ### The statements' hypotheses, met -/

/-- A state just reset has the invariants, here for the two configurations. -/
theorem reset_inv (p : Config.Params) (hp : p.Ok) (port : HostPort) :
    StateInv { cfg := p, block := Block.reset, port := port } where
  cfg_ok := hp
  block_inv :=
    { rx_within_cap := Nat.zero_le _
      no_map_unless_valid := fun _ => rfl
      map_within_cap := Nat.zero_le _
      no_reading_unless_valid := fun _ k => by simp [Block.reset]
      cause_only_malformed := Or.inr rfl }

/-- A block just reset is coherent. -/
theorem reset_coherent (p : Config.Params) : Coherent p Block.reset where
  tx_is_a_request := fun h => by simp [Block.reset] at h
  overflow_means_full := fun h => by simp [Block.reset] at h
  readings_have_a_map := fun h => by simp [Block.reset] at h
  readings_from_map := fun k v h => by simp [Block.reset] at h
  error_is_in_history := rfl
  absent_slots_untouched := fun k _ => by simp [Block.reset]

theorem test_hyp_DecodeOfEncode :
    WellFormed cfg8 (.wrLayout 7 0xFFFFFFFF#32) ∧ WellFormed cfg8 (.illegalCmd 0x0000000B#32) ∧
      WellFormed cfg8 (.rdReading 0) := by decide

/-- A write and a read whose `DATA` is not 0. -/
theorem test_hyp_EncodeOfDecode :
    decodeWord cfg8 0x6008ABCD1234#47 = .ok (.wrCrc 0xABCD1234#32) ∧
      decodeWord cfg8 0x2004FFFFFFFF#47 = .ok .rdStatus := ⟨rfl, rfl⟩

/-- The first and last address of each window. -/
theorem test_hyp_SlotWindows :
    (0x080#12).extractLsb' 0 2 = 0#2 ∧ 0x080 ≤ (0x080#12).toNat ∧
      (0x0FC#12).extractLsb' 0 2 = 0#2 ∧ (0x0FC#12).toNat ≤ 0x0FC ∧
      (0x100#12).extractLsb' 0 2 = 0#2 ∧ 0x100 ≤ (0x100#12).toNat ∧
      (0x17C#12).extractLsb' 0 2 = 0#2 ∧ (0x17C#12).toNat ≤ 0x17C := by decide

theorem test_hyp_StepRunsDecodedTransaction :
    (sending [.transaction 0x600000000002#47, .reset]).port.program = .transaction 0x600000000002#47 :: [.reset] ∧
      decodeWord (sending []).cfg 0x600000000002#47 = .ok .crcByte := ⟨rfl, rfl⟩

/-- The premises with a word on each side of the equivalence: V-X7, and the last LAYOUT slot. -/
theorem test_hyp_BusErrorExactly :
    cfg8.Ok ∧ (sending [.transaction 0x20A000000000#47]).port.program = .transaction 0x20A000000000#47 :: [] ∧
      BusErrorCond cfg8 (transW 0x20A000000000#47) (transSz 0x20A000000000#47) (transAddr 0x20A000000000#47) ∧
      ¬ BusErrorCond cfg8 (transW 0x209C00000000#47) (transSz 0x209C00000000#47) (transAddr 0x209C00000000#47) :=
  ⟨by decide, rfl, by decide +kernel, by decide +kernel⟩

theorem test_hyp_HostEventsWithoutTransaction :
    (sending [.reset]).port.program = .reset :: [] ∧ (sending []).port.program = [] := by decide

theorem test_hyp_AcceptedProgramFinishes :
    (sending [.reset, .transaction 0x600000000004#47]).cfg.Ok ∧
      ∀ e ∈ (sending [.reset, .transaction 0x600000000004#47]).port.program, Accepted cfg8 e := by
  refine ⟨by decide, ?_⟩
  intro e he
  simp only [sending, List.mem_cons, List.not_mem_nil, or_false] at he
  obtain rfl | rfl := he
  · trivial
  · show ¬ BusErrorCond _ _ _ _
    decide

theorem test_hyp_ConfigurationFixed : step (sending []) = .next (sending []) := rfl

/-- Slot 0 exists whatever the parameters are. -/
theorem test_hyp_ResetValues : (0 : Fin 32).val < State.reset.cfg.layoutSlots := Nat.succ_pos _

theorem test_hyp_InvariantKeptByStep :
    ∃ t, StateInv (sending [.transaction 0x601C000000B5#47]) ∧ step (sending [.transaction 0x601C000000B5#47]) = .next t :=
  ⟨_, reset_inv cfg8 (by decide) _, rfl⟩

theorem test_hyp_CoherenceKeptByStep :
    ∃ t, StateInv (sending [.transaction 0x601C000000B5#47]) ∧
      Coherent cfg8 (sending [.transaction 0x601C000000B5#47]).block ∧
      step (sending [.transaction 0x601C000000B5#47]) = .next t :=
  ⟨_, reset_inv cfg8 (by decide) _, reset_coherent cfg8, rfl⟩

/-- The limits of the illegal words, and one illegal by its high bits alone. -/
theorem test_hyp_IllegalCommandRecorded :
    0x0A < ((0x0000000B#32).extractLsb' 0 8).toNat ∧ 0x0A < ((0x000000FF#32).extractLsb' 0 8).toNat ∧
      (0x00000100#32).extractLsb' 8 24 ≠ 0#24 ∧ (0x80000000#32).extractLsb' 8 24 ≠ 0#24 := by decide

/-- A failing command, and a write. -/
theorem test_hyp_StatusUpdateOfCommands :
    (∃ t, exec .field (at8 Block.reset) = .next t ∧ Instr.cls .field = .command ∧ t.block.err ≠ .ok) ∧
      ∃ t, exec (.wrCrc 5#32) (at8 Block.reset) = .next t ∧ Instr.cls (.wrCrc 5#32) ≠ .command :=
  ⟨⟨_, rfl, rfl, by decide⟩, ⟨_, rfl, by decide⟩⟩

/-- FIELD on the same block with another ERR and other cause bits. -/
theorem test_hyp_CommandStatusIsFresh :
    Instr.cls .field = .command ∧ Block.reset ≠ { Block.reset with
      err := .malformed, cause := { Cause.clear with crc := true } } := by decide

/-- Each way a sticky bit can stand: by its code, by a dropped byte, as before; and the reset input. -/
theorem test_hyp_StickyHistory :
    (∃ t, exec .field (at8 Block.reset) = .next t ∧ t.block.sticky.getLsbD 1 = true) ∧
      (∃ t, exec (.wrRxData 0#32) (at1 (withRx oneRegister 1#16)) = .next t ∧ t.block.sticky.getLsbD 4 = true) ∧
      (∃ t, exec .nop (at8 { Block.reset with sticky := 0b00001#5 }) = .next t ∧ t.block.sticky.getLsbD 0 = true) ∧
      (sending [.reset]).port.program = .reset :: [] :=
  ⟨⟨_, rfl, by decide⟩, ⟨_, rfl, by decide⟩, ⟨_, rfl, by decide⟩, rfl⟩

theorem test_hyp_ParameterReads : (at8 Block.reset).cfg.Ok ∧ (at1 Block.reset).cfg.Ok := by decide

theorem test_hyp_ReadsLeaveTheBlock :
    Instr.cls (.rdReading 7) = .registerRead ∧ WellFormed (at8 Block.reset).cfg (.rdReading 7) := by decide

theorem test_hyp_WritesChangeOnlyTheBlock :
    Instr.cls (.wrLayout 7 0#32) ≠ .registerRead ∧ WellFormed (at8 Block.reset).cfg (.wrLayout 7 0#32) ∧
      Instr.cls .decode ≠ .registerRead := by decide

/-- The invariants, and two words that differ in the ignored bits only. -/
theorem test_hyp_SingleFieldRegisters :
    StateInv (at8 Block.reset) ∧ 0xABCD1234#32 ≠ 0x00001234#32 ∧
      (0xABCD1234#32).extractLsb' 0 16 = (0x00001234#32).extractLsb' 0 16 :=
  ⟨reset_inv cfg8 (by decide) _, by decide, by decide⟩

/-- A register write that is no push; and room for exactly two bytes. -/
theorem test_hyp_IdempotentWrites :
    (∃ t, Instr.cls (.wrLayout 0 5#32) = .registerWrite ∧ (∀ d, Instr.wrLayout 0 5#32 ≠ .wrRxData d) ∧
      exec (.wrLayout 0 5#32) (at8 Block.reset) = .next t) ∧
    (at1 (withRx (oneRegister.take 5) 1#16)).block.rx.length + 1 < cfg1.rxCap :=
  ⟨⟨_, rfl, by simp, rfl⟩, by decide⟩

/-- Each working register changed by an operation its rule names. -/
theorem test_hyp_WorkingRegisterWriters :
    (∃ t, exec (.wrCrc 5#32) (at8 Block.reset) = .next t ∧ t.block.crc ≠ 0xFFFF#16) ∧
      (∃ t, exec (.wrArg0 5#32) (at8 Block.reset) = .next t ∧ t.block.arg0 ≠ 0#16) ∧
      (∃ t, exec (.wrArg1 5#32) (at8 Block.reset) = .next t ∧ t.block.arg1 ≠ 0#16) ∧
      ∃ t, exec .field (at8 w2Block) = .next t ∧ t.block.result ≠ 0#16 :=
  ⟨⟨_, rfl, by decide⟩, ⟨_, rfl, by decide⟩, ⟨_, rfl, by decide⟩, ⟨_, rfl, by decide⟩⟩

/-- Each buffer and flag changed by an operation its rule names. -/
theorem test_hyp_BufferWriters :
    (∃ t, exec .buildReq (at8 (withArgs 0#16 1#16)) = .next t ∧ t.block.tx ≠ Vector.replicate 8 0#8) ∧
      (∃ t, exec .rxClear (at8 { w2Block with rxOvf := true }) = .next t ∧ t.block.rx ≠ w2Bytes ∧
        t.block.rxOvf ≠ true) ∧
      (∃ t, exec (.wrRxData 5#32) (at8 Block.reset) = .next t ∧ t.block.rx ≠ []) ∧
      (∃ t, exec (.wrRxData 5#32) (at1 (withRx oneRegister 1#16)) = .next t ∧ t.block.rxOvf ≠ false) ∧
      ∃ t, exec .decode (at8 w2Block) = .next t :=
  ⟨⟨_, rfl, by decide +kernel⟩, ⟨_, rfl, by decide, by decide⟩, ⟨_, rfl, by decide⟩, ⟨_, rfl, by decide⟩, ⟨_, rfl⟩⟩

/-- A slot changed by a write to it, the readings by EXTRACT; DECODE too answers a next state. -/
theorem test_hyp_TableWriters :
    (∃ t, exec (.wrLayout 7 0x80050006#32) (at8 w3Block) = .next t ∧ t.block.layout[7] ≠ w3Block.layout[7]) ∧
      (∃ t, exec .extract (at8 w2Block) = .next t ∧ t.block.reading ≠ w2Block.reading ∧ t.block.rdValid ≠ false) ∧
      ∃ t, exec .decode (at8 w2Block) = .next t :=
  ⟨⟨_, rfl, by decide⟩, ⟨_, rfl, by decide +kernel, by decide +kernel⟩, ⟨_, rfl⟩⟩

/-- A generator that holds the CRC of no bytes. -/
theorem test_hyp_CrcByteAdvances : (at8 Block.reset).block.crc = crc16 0xFFFF#16 [] := rfl

theorem test_hyp_CrcDetectsByteChange : (0x00#8) ≠ 0x01#8 := by decide

/-- A buffer of one byte; V-K5's trailer that fits, V-K6's that does not, and the first with the overflow bit. -/
theorem test_hyp_CrcCheckRxOutcome :
    (withRx [0x00#8] 0#16).rx.length < 2 ∧
      oneRegister = [0x01#8, 0x03#8, 0x02#8, 0x12#8, 0x34#8] ++ [0xB5#8, 0x33#8] ∧
      crc16 0xFFFF#16 [0x01#8, 0x03#8, 0x02#8, 0x12#8, 0x34#8] = le16 0xB5#8 0x33#8 ∧
      (withRx oneRegister 0#16).rxOvf = false ∧
      crc16 0xFFFF#16 [0x01#8, 0x03#8, 0x02#8, 0x12#8, 0x34#8] ≠ le16 0xB5#8 0x34#8 ∧
      { withRx oneRegister 0#16 with rxOvf := true }.rxOvf = true := by decide +kernel

/-- Counts 0 and 126 on one side, 1 and 125 on the other. -/
theorem test_hyp_BuildReqOutcome :
    (withArgs 0#16 0#16).arg1.toNat = 0 ∧ cfg8.maxCount < (withArgs 0#16 126#16).arg1.toNat ∧
      (1 ≤ (withArgs 0#16 1#16).arg1.toNat ∧ (withArgs 0#16 1#16).arg1.toNat ≤ cfg8.maxCount) ∧
      1 ≤ (withArgs 0#16 125#16).arg1.toNat ∧ (withArgs 0#16 125#16).arg1.toNat ≤ cfg8.maxCount := by decide

theorem test_hyp_BuildReqFrameResidue :
    ∃ t, exec .buildReq (at8 (withArgs 36#16 10#16)) = .next t ∧ t.block.err = .ok :=
  ⟨_, rfl, by decide +kernel⟩

/-- Room for one more byte, and none. -/
theorem test_hyp_RxPushOutcome :
    (at1 (withRx (oneRegister.take 6) 1#16)).block.rx.length < cfg1.rxCap ∧
      cfg1.rxCap ≤ (at1 (withRx oneRegister 1#16)).block.rx.length := by decide

/-- V-D1 meets the four checks. -/
theorem test_hyp_DecodeOutcome_valid :
    3 + 2 * (withRx oneRegister 1#16).arg1.toNat + 2 ≤ oneRegister.length ∧
      (∃ body lo hi, oneRegister = body ++ [lo, hi] ∧ crc16 0xFFFF#16 body = le16 lo hi) ∧
      (∃ c, oneRegister[2]? = some c ∧ c.toNat = 2 * (withRx oneRegister 1#16).arg1.toNat) ∧
      (withRx oneRegister 1#16).rxOvf = false :=
  ⟨by decide, ⟨[0x01#8, 0x03#8, 0x02#8, 0x12#8, 0x34#8], 0xB5#8, 0x33#8, rfl, by decide +kernel⟩,
    ⟨0x02#8, rfl, rfl⟩, rfl⟩

/-- The same buffer with a count one too large fails the length check. -/
theorem test_hyp_DecodeOutcome_malformed :
    ¬ 3 + 2 * (withRx oneRegister 2#16).arg1.toNat + 2 ≤ oneRegister.length := by decide

/-- One register. -/
theorem test_hyp_DecodeRoundTrip :
    (withRx oneRegister 1#16).rx = ([0x01#8, 0x03#8, BitVec.ofNat 8 (2 * [0x1234#16].length)] ++
      [0x1234#16].flatMap fun v => [hiByte v, loByte v]) ++ [0xB5#8, 0x33#8] ∧
    crc16 0xFFFF#16 ([0x01#8, 0x03#8, BitVec.ofNat 8 (2 * [0x1234#16].length)] ++
      [0x1234#16].flatMap fun v => [hiByte v, loByte v]) = 0x33B5#16 ∧
    loByte 0x33B5#16 = 0xB5#8 ∧ hiByte 0x33B5#16 = 0x33#8 ∧ (withRx oneRegister 1#16).rxOvf = false ∧
    (withRx oneRegister 1#16).arg1.toNat = [0x1234#16].length ∧ [0x1234#16].length ≤ 127 := by decide +kernel

/-- The longest map, 127 registers. -/
theorem test_hyp_DecodeRoundTrip_longest :
    (List.replicate 127 0x1234#16).length ≤ 127 ∧
      (withRx [] 127#16).arg1.toNat = (List.replicate 127 0x1234#16).length := by simp [withRx]

/-- V-D1's buffer with its last data byte changed. -/
theorem test_hyp_DecodeDetectsCorruption :
    [0x01#8, 0x03#8, 0x02#8, 0x12#8] ++ 0x34#8 :: [0xB5#8, 0x33#8] =
      [0x01#8, 0x03#8, 0x02#8, 0x12#8, 0x34#8] ++ [0xB5#8, 0x33#8] ∧
    crc16 0xFFFF#16 [0x01#8, 0x03#8, 0x02#8, 0x12#8, 0x34#8] = le16 0xB5#8 0x33#8 ∧ 0x34#8 ≠ 0x35#8 := by
  decide +kernel

/-- A count of 128, and a buffer of four bytes; V-D1 succeeds. -/
theorem test_hyp_DecodeBounds :
    128 ≤ (withRx oneRegister 128#16).arg1.toNat ∧ (withRx (oneRegister.take 4) 0#16).rx.length < 5 ∧
      statusAfter .decode (at8 (withRx oneRegister 1#16)) = some 0x00000500#32 := by decide +kernel

theorem test_hyp_DecodeAcceptsExtraZeroByte :
    ∃ t, exec .decode (at8 (withRx oneRegister 1#16)) = .next t ∧ t.block.err = .ok := ⟨_, rfl, by decide +kernel⟩

/-- Two states that agree in the buffer and the count and in little else. -/
theorem test_hyp_DecodeIgnoresHistory :
    (at8 w2Block).block.rx = (at8 (withRx w2Bytes 10#16)).block.rx ∧
      (at8 w2Block).block.rxOvf = (at8 (withRx w2Bytes 10#16)).block.rxOvf ∧
      (at8 w2Block).block.arg1 = (at8 (withRx w2Bytes 10#16)).block.arg1 ∧
      (at8 w2Block).block.map ≠ (at8 (withRx w2Bytes 10#16)).block.map := by decide

/-- The last index of the map, and one past it. -/
theorem test_hyp_FieldOutcome :
    w2Block.map[({ w2Block with arg0 := 9#16 } : Block).arg0.toNat]? = some 0#16 ∧
      w2Block.map.length ≤ ({ w2Block with arg0 := 10#16 } : Block).arg0.toNat := by decide

/-- The last slot that exists and the first that does not. -/
theorem test_hyp_LayoutReadFields :
    (7 : Fin 32).val < (at8 w3Block).cfg.layoutSlots ∧ (at8 w3Block).cfg.layoutSlots ≤ (8 : Fin 32).val := by decide

theorem test_hyp_LayoutWrite :
    (7 : Fin 32).val < (at8 w3Block).cfg.layoutSlots ∧ (6 : Fin 32) ≠ 7 ∧
      (at8 w3Block).cfg.layoutSlots ≤ (8 : Fin 32).val := by decide

theorem test_hyp_LayoutReadBack : (7 : Fin 32).val < (at8 w3Block).cfg.layoutSlots := by decide

/-- A slot with a reading, one without, one that does not exist. -/
theorem test_hyp_ReadingRead :
    (7 : Fin 32).val < cfg8.layoutSlots ∧ ({ w2Block with reading := noReadings.set 7 (some 77#16) } : Block).reading[7] =
      some 77#16 ∧ w2Block.reading[4] = none ∧ cfg8.layoutSlots ≤ (8 : Fin 32).val := by decide

/-- The reference layout in a window of seven has an active slot at 7; after reset no slot is active. -/
theorem test_hyp_LayoutCheckOutcome :
    (∃ k : Fin 32, k.val < cfg8.layoutSlots ∧ w3Block.layout[k].valid = true ∧ w3Block.layout[k].reserved = false ∧
      7 ≤ w3Block.layout[k].index.toNat) ∧
    ¬ ∃ k : Fin 32, k.val < cfg8.layoutSlots ∧ Block.reset.layout[k].valid = true ∧
      Block.reset.layout[k].reserved = false ∧ 0 ≤ Block.reset.layout[k].index.toNat := by decide +kernel

/-- V-E1's state is good with slot 7 active and slot 4 not; V-E4's and V-E5's states are bad. -/
theorem test_hyp_ExtractOutcome :
    (w2Block.mapValid = true ∧ ¬ ∃ k : Fin 32, (k.val < cfg8.layoutSlots ∧ w2Block.layout[k].valid = true ∧
      w2Block.layout[k].reserved = false) ∧ w2Block.map.length ≤ w2Block.layout[k].index.toNat) ∧
    w2Block.layout[7].active = true ∧ w2Block.layout[4].active = false ∧ w3Block.mapValid = false ∧
    ∃ k : Fin 32, (k.val < cfg8.layoutSlots ∧ w2Block.layout[k].valid = true ∧
      w2Block.layout[k].reserved = false) ∧ 1 ≤ w2Block.layout[k].index.toNat := by decide +kernel

/-- The reference layout marks index 4 reserved. -/
theorem test_hyp_ReservedIndexNeverExposed :
    ∀ k : Fin 32, w2Block.layout[k].index.toNat = 4 →
      w2Block.layout[k].valid = false ∨ w2Block.layout[k].reserved = true := by decide +kernel

/-- Two states that agree in the map and the layout and not in the readings. -/
theorem test_hyp_ExtractIgnoresHistory :
    let s := at8 w2Block
    let s' := at8 { w2Block with reading := noReadings.set 4 (some 5#16), rdValid := true }
    s.cfg = s'.cfg ∧ s.block.map = s'.block.map ∧ s.block.mapValid = s'.block.mapValid ∧
      s.block.layout = s'.block.layout ∧ s.block.reading ≠ s'.block.reading := by decide +kernel

end Sys2Proof.Tests
end

/-! # Proofs, 00_scope.md: byte order, what DECODE accepts, the block's invariants -/

/-! ## The value of two bytes (00_scope.md R10, 20_memory.md R68) -/

namespace Sys2Proof.Machine

theorem toNat_be16 (hi lo : Byte) : (be16 hi lo).toNat = hi.toNat * 256 + lo.toNat := by
  rw [be16, BitVec.toNat_append, ← Nat.shiftLeft_add_eq_or_of_lt lo.isLt, Nat.shiftLeft_eq]

theorem le16_eq_be16 (lo hi : Byte) : le16 lo hi = be16 hi lo := rfl

theorem be16_hiByte_loByte (v : Half) : be16 (hiByte v) (loByte v) = v := by
  unfold be16 hiByte loByte
  rw [BitVec.extractLsb'_append_extractLsb'_eq_extractLsb' (by rfl), BitVec.extractLsb'_eq_self]

/-- Settles O31: both orders are the concatenation of the two bytes, the more significant first. -/
theorem frameByteOrder : Obligations.FrameByteOrder :=
  ⟨fun a b => ⟨toNat_be16 a b, toNat_be16 b a⟩, fun v => ⟨be16_hiByte_loByte v, be16_hiByte_loByte v⟩⟩

end Sys2Proof.Machine

/-! ## What DECODE accepts (42_frame_parse.md R181, R183) -/

namespace Sys2Proof.Machine

theorem lenOk_iff (rx : List Byte) (n : Nat) : lenOk rx n = true ↔ 2 * n + 5 ≤ rx.length := by
  simp only [lenOk, decide_eq_true_eq]
  omega

theorem lenOk_eq_false_of_length_lt_five {rx : List Byte} (n : Nat) (h : rx.length < 5) : lenOk rx n = false := by
  rw [← Bool.not_eq_true, lenOk_iff]
  omega

/-- The byte-count is one byte, so it names at most 127 registers. -/
theorem le_127_of_bcOk {rx : List Byte} {n : Nat} (h : bcOk rx n = true) : n ≤ 127 := by
  simp only [bcOk, Bool.and_eq_true, decide_eq_true_eq] at h
  have hbyte := (rx.getD 2 0#8).isLt
  omega

theorem bcOk_eq_false_of_le {rx : List Byte} {n : Nat} (h : 128 ≤ n) : bcOk rx n = false := by
  rw [← Bool.not_eq_true]
  intro hbc
  have := le_127_of_bcOk hbc
  omega

@[simp] theorem length_unpackRegisters (rx : List Byte) (n : Nat) : (unpackRegisters rx n).length = n := by
  simp [unpackRegisters]

/-- DECODE's condition of success: the checks of 42_frame_parse.md R181 and no overflow. -/
def Block.accepts (b : Block) : Bool :=
  lenOk b.rx b.expectedCount && crcOk b.rx && bcOk b.rx b.expectedCount && !b.rxOvf

theorem Block.accepts_iff (b : Block) :
    b.accepts = true ↔ lenOk b.rx b.expectedCount = true ∧ crcOk b.rx = true ∧
      bcOk b.rx b.expectedCount = true ∧ b.rxOvf = false := by
  simp [Block.accepts, and_assoc]

/-- What DECODE does to the block before it knows the outcome. -/
def Block.beginDecode (b : Block) : Block := (b.setCrcMatch (crcOk b.rx)).setReadings noReadings false

theorem decodeResponse_of_accepts {b : Block} (h : b.accepts = true) :
    decodeResponse b = (b.beginDecode.setMap (unpackRegisters b.rx b.expectedCount) true).setErr .ok :=
  if_pos h

theorem decodeResponse_of_not_accepts {b : Block} (h : b.accepts = false) :
    decodeResponse b = (b.beginDecode.setMap [] false).setErr .malformed
      { len := !lenOk b.rx b.expectedCount, crc := !crcOk b.rx, bc := !bcOk b.rx b.expectedCount, ovf := b.rxOvf } :=
  if_neg (Bool.eq_false_iff.1 h)

theorem decodeResponse_err_eq_ok_iff (b : Block) : (decodeResponse b).err = .ok ↔ b.accepts = true := by
  cases h : b.accepts
  · simp [decodeResponse_of_not_accepts h]
  · simp [decodeResponse_of_accepts h]

/-- 42_frame_parse.md R183: an accepted count is small and the buffer holds its registers. -/
theorem Block.count_bounds_of_accepts {b : Block} (h : b.accepts = true) :
    b.expectedCount ≤ 127 ∧ 2 * b.expectedCount + 5 ≤ b.rx.length := by
  obtain ⟨hlen, -, hbc, -⟩ := b.accepts_iff.1 h
  exact ⟨le_127_of_bcOk hbc, (lenOk_iff _ _).1 hlen⟩

theorem decodeResponse_of_large_count {b : Block} (h : 128 ≤ b.expectedCount) :
    (decodeResponse b).err = .malformed ∧ (decodeResponse b).cause.bc = true := by
  have hbc : bcOk b.rx b.expectedCount = false := bcOk_eq_false_of_le h
  have hrej : b.accepts = false := by simp [Block.accepts, hbc]
  simp [decodeResponse_of_not_accepts hrej, hbc]

theorem decodeResponse_of_short_buffer {b : Block} (h : b.rx.length < 5) :
    (decodeResponse b).err = .malformed ∧ (decodeResponse b).cause.len = true := by
  have hlen : lenOk b.rx b.expectedCount = false := lenOk_eq_false_of_length_lt_five _ h
  have hrej : b.accepts = false := by simp [Block.accepts, hlen]
  simp [decodeResponse_of_not_accepts hrej, hlen]

theorem exec_decode (s : State) : exec .decode s = .next { s with block := decodeResponse s.block } := rfl

/-- Settles O44: success passes the length check and the byte-count check, which bound the count. -/
theorem decodeBounds : Obligations.DecodeBounds := by
  intro s
  refine ⟨_, exec_decode s, fun hok => ?_, decodeResponse_of_large_count, decodeResponse_of_short_buffer⟩
  have hacc : s.block.accepts = true := (decodeResponse_err_eq_ok_iff _).1 hok
  obtain ⟨hcount, hbuffer⟩ := Block.count_bounds_of_accepts hacc
  exact ⟨hcount, hbuffer, by simp [decodeResponse_of_accepts hacc, Block.expectedCount]⟩

end Sys2Proof.Machine

/-! ## The invariants of the block under each write of a component (10_state.md R42) -/

namespace Sys2Proof.Safety

open Sys2Proof.Machine

section ComponentWrites

variable {p : Config.Params} {b : Block}

/-- The invariants speak of seven components only. -/
theorem BlockInv.of_agree {b' : Block} (h : BlockInv p b) (hrx : b'.rx = b.rx) (hmap : b'.map = b.map)
    (hmapValid : b'.mapValid = b.mapValid) (hreading : b'.reading = b.reading) (hrdValid : b'.rdValid = b.rdValid)
    (herr : b'.err = b.err) (hcause : b'.cause = b.cause) : BlockInv p b' where
  rx_within_cap := hrx ▸ h.rx_within_cap
  no_map_unless_valid := by rw [hmapValid, hmap]; exact h.no_map_unless_valid
  map_within_cap := hmap ▸ h.map_within_cap
  no_reading_unless_valid := by rw [hrdValid, hreading]; exact h.no_reading_unless_valid
  cause_only_malformed := by rw [herr, hcause]; exact h.cause_only_malformed

theorem BlockInv.setCrc (h : BlockInv p b) (v : Half) : BlockInv p (b.setCrc v) :=
  h.of_agree rfl rfl rfl rfl rfl rfl rfl

theorem BlockInv.setArg0 (h : BlockInv p b) (v : Half) : BlockInv p (b.setArg0 v) :=
  h.of_agree rfl rfl rfl rfl rfl rfl rfl

theorem BlockInv.setArg1 (h : BlockInv p b) (v : Half) : BlockInv p (b.setArg1 v) :=
  h.of_agree rfl rfl rfl rfl rfl rfl rfl

theorem BlockInv.setResult (h : BlockInv p b) (v : Half) : BlockInv p (b.setResult v) :=
  h.of_agree rfl rfl rfl rfl rfl rfl rfl

theorem BlockInv.setTx (h : BlockInv p b) (v : Vector Byte 8) : BlockInv p (b.setTx v) :=
  h.of_agree rfl rfl rfl rfl rfl rfl rfl

theorem BlockInv.setTxValid (h : BlockInv p b) (v : Bool) : BlockInv p (b.setTxValid v) :=
  h.of_agree rfl rfl rfl rfl rfl rfl rfl

theorem BlockInv.setRxOvf (h : BlockInv p b) (v : Bool) : BlockInv p (b.setRxOvf v) :=
  h.of_agree rfl rfl rfl rfl rfl rfl rfl

theorem BlockInv.setSlot (h : BlockInv p b) (k : Fin 32) (l : Slot) : BlockInv p (b.setSlot k l) :=
  h.of_agree rfl rfl rfl rfl rfl rfl rfl

theorem BlockInv.setCrcMatch (h : BlockInv p b) (v : Bool) : BlockInv p (b.setCrcMatch v) :=
  h.of_agree rfl rfl rfl rfl rfl rfl rfl

theorem BlockInv.setSticky (h : BlockInv p b) (v : BitVec 5) : BlockInv p (b.setSticky v) :=
  h.of_agree rfl rfl rfl rfl rfl rfl rfl

theorem BlockInv.setRx (h : BlockInv p b) {v : List Byte} (hv : v.length ≤ p.rxCap) : BlockInv p (b.setRx v) :=
  { h with rx_within_cap := hv }

theorem BlockInv.setMap (h : BlockInv p b) {m : List Half} {v : Bool} (hv : v = false → m = [])
    (hm : m.length ≤ p.mapCap) : BlockInv p (b.setMap m v) :=
  { h with no_map_unless_valid := hv, map_within_cap := hm }

theorem BlockInv.setReadings (h : BlockInv p b) {r : Vector (Option Half) 32} {v : Bool}
    (hv : v = false → ∀ k : Fin 32, r[k] = none) : BlockInv p (b.setReadings r v) :=
  { h with no_reading_unless_valid := hv }

/-- The status update establishes R42 (e) whatever the last command recorded. -/
theorem BlockInv.setErr (h : BlockInv p b) (e : ErrCode) (c : Cause := Cause.clear) : BlockInv p (b.setErr e c) :=
  { h with
    cause_only_malformed := by
      by_cases he : e = .malformed
      · exact .inl he
      · exact .inr (if_neg he) }

theorem noReadings_getElem (k : Fin 32) : noReadings[k] = none := by simp [noReadings]

theorem BlockInv.clearReadings (h : BlockInv p b) : BlockInv p (b.setReadings noReadings false) :=
  h.setReadings fun _ => noReadings_getElem

end ComponentWrites

/-! ## The invariants under each operation -/

section Operations

variable {p : Config.Params} {b : Block}

theorem BlockInv.clrSticky (h : BlockInv p b) : BlockInv p (clrSticky b) := (h.setSticky _).setErr _

theorem BlockInv.crcInit (h : BlockInv p b) : BlockInv p (crcInit b) := (h.setCrc _).setErr _

theorem BlockInv.crcByte (h : BlockInv p b) : BlockInv p (crcByte b) := (h.setCrc _).setErr _

theorem BlockInv.crcCheckRx (h : BlockInv p b) : BlockInv p (crcCheckRx b) := by
  unfold Machine.crcCheckRx
  split
  · exact (h.setCrcMatch _).setErr _ _
  · have hb' := (h.setCrc (bodyCrc b.rx)).setCrcMatch (decide (bodyCrc b.rx = trailerCrc b.rx))
    dsimp only
    split
    · exact hb'.setErr _
    · exact hb'.setErr _ _

theorem BlockInv.buildReq (h : BlockInv p b) : BlockInv p (buildReq p b) := by
  unfold Machine.buildReq
  split
  · exact (h.setTxValid _).setErr _
  · exact ((h.setTx _).setTxValid _).setErr _

theorem BlockInv.rxClear (h : BlockInv p b) : BlockInv p (rxClear b) :=
  ((h.setRx (Nat.zero_le _)).setRxOvf _).setErr _

/-- A push is kept only below the capacity. -/
theorem BlockInv.rxPush (h : BlockInv p b) (v : Byte) : BlockInv p (rxPush p v b) := by
  unfold Machine.rxPush
  split
  · next hroom => exact h.setRx (by rw [List.length_append]; exact hroom)
  · exact (h.setRxOvf _).setSticky _

/-- An accepted count fits the map: 127 by the byte-count, `(RX_CAP - 5) div 2` by the length of the buffer. -/
theorem BlockInv.count_le_mapCap_of_accepts (h : BlockInv p b) (hacc : b.accepts = true) :
    b.expectedCount ≤ p.mapCap := by
  obtain ⟨hcount, hbuffer⟩ := Block.count_bounds_of_accepts hacc
  have hcap := h.rx_within_cap
  rw [Config.Params.mapCap, Nat.le_min]
  omega

theorem BlockInv.decodeResponse (h : BlockInv p b) : BlockInv p (decodeResponse b) := by
  have hbegin : BlockInv p b.beginDecode := (h.setCrcMatch _).clearReadings
  cases hacc : b.accepts
  · rw [decodeResponse_of_not_accepts hacc]
    exact (hbegin.setMap (fun _ => rfl) (Nat.zero_le _)).setErr _ _
  · rw [decodeResponse_of_accepts hacc]
    refine (hbegin.setMap (v := true) nofun ?_).setErr _
    rw [length_unpackRegisters]
    exact h.count_le_mapCap_of_accepts hacc

theorem BlockInv.fieldAt (h : BlockInv p b) : BlockInv p (fieldAt b) := by
  unfold Machine.fieldAt
  split
  · exact (h.setResult _).setErr _
  · exact h.setErr _

theorem BlockInv.layoutCheck (h : BlockInv p b) : BlockInv p (layoutCheck p b) := by
  unfold Machine.layoutCheck
  split
  · exact h.setErr _
  · exact h.setErr _

theorem BlockInv.extractReadings (h : BlockInv p b) : BlockInv p (extractReadings p b) := by
  unfold Machine.extractReadings
  split
  · exact h.clearReadings.setErr _
  · exact (h.setReadings (v := true) nofun).setErr _

theorem BlockInv.effect (h : BlockInv p b) (i : Instr) : BlockInv p (effect p i b) := by
  cases i
  case nop | illegalCmd => exact h.setErr _
  case clrSticky => exact h.clrSticky
  case crcInit => exact h.crcInit
  case crcByte => exact h.crcByte
  case crcCheckRx => exact h.crcCheckRx
  case buildReq => exact h.buildReq
  case rxClear => exact h.rxClear
  case decode => exact h.decodeResponse
  case field => exact h.fieldAt
  case layoutCheck => exact h.layoutCheck
  case extract => exact h.extractReadings
  case wrCrc data => exact h.setCrc _
  case wrArg0 data => exact h.setArg0 _
  case wrArg1 data => exact h.setArg1 _
  case wrRxData data => exact h.rxPush _
  case wrLayout k data => exact h.setSlot k _
  all_goals exact h

end Operations

/-! ## The invariants under a step -/

theorem blockInv_reset (p : Config.Params) : BlockInv p Block.reset where
  rx_within_cap := Nat.zero_le _
  no_map_unless_valid _ := rfl
  map_within_cap := Nat.zero_le _
  no_reading_unless_valid _ := noReadings_getElem
  cause_only_malformed := .inr rfl

theorem StateInv.of_exec {i : Instr} {s t : State} (h : StateInv s) (hexec : exec i s = .next t) : StateInv t := by
  obtain ⟨hblock, hcfg, -, -⟩ := exec_next hexec
  exact ⟨hcfg ▸ h.cfg_ok, by rw [hcfg, hblock]; exact h.block_inv.effect i⟩

/-- Settles O13, by the three kinds of step: none, the reset input, a transaction. -/
theorem invariantKeptByStep : Obligations.InvariantKeptByStep := by
  intro s t h hstep
  obtain ⟨-, rfl⟩ | ⟨rest, -, rfl⟩ | ⟨w, rest, i, -, -, hexec⟩ := step_cases hstep
  · exact h
  · exact ⟨h.cfg_ok, blockInv_reset _⟩
  · have haccept : StateInv (s.accept rest) := ⟨h.cfg_ok, h.block_inv⟩
    exact haccept.of_exec hexec

end Sys2Proof.Safety

/-! # Proofs, 10_state.md: each operation as one update of the block, coherence, who writes what -/

/-! ## Each branching operation as one update

What an operation writes is the same in all its branches; only the values differ. Said as an equation, its frame is
read off without a case split. -/

namespace Sys2Proof.Machine

theorem crcOk_eq_false_of_length_lt_two {rx : List Byte} (h : rx.length < 2) : crcOk rx = false := by
  have hshort : ¬ 2 ≤ rx.length := by omega
  simp [crcOk, hshort]

theorem crcOk_of_two_le_length {rx : List Byte} (h : 2 ≤ rx.length) :
    crcOk rx = decide (bodyCrc rx = trailerCrc rx) := by
  simp [crcOk, h]

/-- The cause bits are kept with MALFORMED only (44_control.md R232). -/
theorem Block.setErr_ok_eq (b : Block) (c : Cause) : b.setErr .ok c = b.setErr .ok := rfl

/-- CRC_CHECK_RX passes exactly when DECODE's CRC check does and no byte was dropped. -/
theorem crcCheckRx_eq (b : Block) :
    crcCheckRx b =
      ((b.setCrc (if b.rx.length < 2 then b.crc else bodyCrc b.rx)).setCrcMatch (crcOk b.rx)).setErr
        (if crcOk b.rx && !b.rxOvf then .ok else .malformed)
        { len := false, crc := !crcOk b.rx, bc := false, ovf := b.rxOvf } := by
  unfold crcCheckRx
  split
  · next hshort =>
    rw [crcOk_eq_false_of_length_lt_two hshort]
    rfl
  · next hlong =>
    rw [crcOk_of_two_le_length (Nat.not_lt.1 hlong)]
    dsimp only
    split
    · exact (Block.setErr_ok_eq _ _).symm
    · rfl

/-- 41_frame_build.md R151: the count is in range. -/
def Block.countOk (p : Config.Params) (b : Block) : Bool :=
  !decide (b.count.toNat = 0 ∨ p.maxCount < b.count.toNat)

theorem Block.countOk_iff (p : Config.Params) (b : Block) :
    b.countOk p = true ↔ 1 ≤ b.count.toNat ∧ b.count.toNat ≤ p.maxCount := by
  simp only [Block.countOk, Bool.not_eq_true', decide_eq_false_iff_not]
  omega

theorem buildReq_eq (p : Config.Params) (b : Block) :
    buildReq p b =
      ((b.setTx (if b.countOk p then requestFrame b.startOffset b.count else b.tx)).setTxValid (b.countOk p)).setErr
        (if b.countOk p then .ok else .badParam) := by
  unfold buildReq Block.countOk
  split
  · next hbad => simp [hbad, Block.setTx]
  · next hgood => simp [hgood]

theorem rxPush_eq (p : Config.Params) (v : Byte) (b : Block) :
    rxPush p v b =
      ((b.setRx (if b.rx.length < p.rxCap then b.rx ++ [v] else b.rx)).setRxOvf
        (if b.rx.length < p.rxCap then b.rxOvf else true)).setSticky
        (if b.rx.length < p.rxCap then b.sticky else b.sticky ||| stickyRxOverflow) := by
  unfold rxPush
  split <;> rfl

theorem decodeResponse_eq (b : Block) :
    decodeResponse b =
      (b.beginDecode.setMap (if b.accepts then unpackRegisters b.rx b.expectedCount else []) b.accepts).setErr
        (if b.accepts then .ok else .malformed)
        { len := !lenOk b.rx b.expectedCount, crc := !crcOk b.rx, bc := !bcOk b.rx b.expectedCount, ovf := b.rxOvf } := by
  cases hacc : b.accepts
  · exact decodeResponse_of_not_accepts hacc
  · rw [decodeResponse_of_accepts hacc]
    exact (Block.setErr_ok_eq _ _).symm

theorem fieldAt_eq (b : Block) :
    fieldAt b =
      (b.setResult (b.map[b.relativeIndex]?.getD b.result)).setErr
        (if b.map[b.relativeIndex]?.isSome then .ok else .indexOutOfRange) := by
  unfold fieldAt
  split
  · next v hv => simp [hv]
  · next hnone => simp [hnone, Block.setResult]

theorem layoutCheck_eq (p : Config.Params) (b : Block) :
    layoutCheck p b = b.setErr (if slotOutOfRange p b b.windowCount then .indexOutOfRange else .ok) := by
  unfold layoutCheck
  split <;> rfl

/-- 43_register_extract.md R209: EXTRACT's condition of success. -/
def Block.extractable (p : Config.Params) (b : Block) : Bool := b.mapValid && !slotOutOfRange p b b.map.length

theorem Block.mapValid_of_extractable {p : Config.Params} {b : Block} (h : b.extractable p = true) :
    b.mapValid = true := by
  rw [Block.extractable, Bool.and_eq_true] at h
  exact h.1

theorem extractReadings_eq (p : Config.Params) (b : Block) :
    extractReadings p b =
      (b.setReadings (if b.extractable p then readingsOf p b else noReadings) (b.extractable p)).setErr
        (if b.extractable p then .ok else .indexOutOfRange) := by
  unfold extractReadings Block.extractable
  cases b.mapValid <;> cases slotOutOfRange p b b.map.length <;> rfl

end Sys2Proof.Machine

/-! ## Coherence under each write of a component -/

namespace Sys2Proof.Safety

open Sys2Proof.Machine

section ComponentWrites

variable {p : Config.Params} {b : Block}

theorem Coherent.setCrc (h : Coherent p b) (v : Half) : Coherent p (b.setCrc v) := { h with }

theorem Coherent.setArg0 (h : Coherent p b) (v : Half) : Coherent p (b.setArg0 v) := { h with }

theorem Coherent.setArg1 (h : Coherent p b) (v : Half) : Coherent p (b.setArg1 v) := { h with }

theorem Coherent.setResult (h : Coherent p b) (v : Half) : Coherent p (b.setResult v) := { h with }

theorem Coherent.setCrcMatch (h : Coherent p b) (v : Bool) : Coherent p (b.setCrcMatch v) := { h with }

theorem Coherent.dropTx (h : Coherent p b) : Coherent p (b.setTxValid false) :=
  { h with tx_is_a_request := nofun }

theorem Coherent.setRequest (h : Coherent p b) (st : Half) {n : Half} (hn : 1 ≤ n.toNat ∧ n.toNat ≤ p.maxCount) :
    Coherent p ((b.setTx (requestFrame st n)).setTxValid true) :=
  { h with tx_is_a_request := fun _ => ⟨st, n, hn.1, hn.2, rfl⟩ }

theorem Coherent.clearRx (h : Coherent p b) : Coherent p ((b.setRx []).setRxOvf false) :=
  { h with overflow_means_full := nofun }

/-- While there is room no byte has been dropped. -/
theorem Coherent.appendRx (h : Coherent p b) (v : Byte) (hroom : b.rx.length < p.rxCap) :
    Coherent p (b.setRx (b.rx ++ [v])) :=
  { h with overflow_means_full := fun hovf => absurd (h.overflow_means_full hovf) hroom.ne }

theorem or_and_eq_of_and_eq {x y v : BitVec 5} (h : x &&& y = y) : (x ||| v) &&& y = y := by
  ext i hi
  have hbit : (x[i] && y[i]) = y[i] := by rw [← BitVec.getElem_and, h]
  rw [BitVec.getElem_and, BitVec.getElem_or, Bool.and_or_distrib_right, hbit]
  cases y[i] <;> simp

/-- The history only grows, so the last error stays in it. -/
theorem Coherent.addSticky (h : Coherent p b) (v : BitVec 5) : Coherent p (b.setSticky (b.sticky ||| v)) :=
  { h with
    error_is_in_history := by
      rw [Block.setSticky_sticky, Block.setSticky_err]
      exact or_and_eq_of_and_eq h.error_is_in_history }

theorem Coherent.overflow (h : Coherent p b) (hfull : b.rx.length = p.rxCap) : Coherent p (b.setRxOvf true) :=
  { h with overflow_means_full := fun _ => hfull }

theorem Coherent.setReadings (h : Coherent p b) {r : Vector (Option Half) 32} {v : Bool}
    (hvalid : v = true → b.mapValid = true) (hmem : ∀ (k : Fin 32) (x : Half), r[k] = some x → x ∈ b.map)
    (habsent : ∀ k : Fin 32, p.layoutSlots ≤ k.val → r[k] = none) : Coherent p (b.setReadings r v) :=
  { h with
    readings_have_a_map := hvalid
    readings_from_map := hmem
    absent_slots_untouched := fun k hk => ⟨(h.absent_slots_untouched k hk).1, habsent k hk⟩ }

theorem Coherent.clearReadings (h : Coherent p b) : Coherent p (b.setReadings noReadings false) :=
  h.setReadings nofun (fun k _ hv => nomatch (noReadings_getElem k).symm.trans hv) fun k _ => noReadings_getElem k

theorem readingsOf_getElem (p : Config.Params) (b : Block) (k : Fin 32) :
    (readingsOf p b)[k] = if activeSlot p b k then b.map[b.layout[k].index.toNat]? else none := by
  simp [readingsOf]

theorem mem_map_of_readingsOf {k : Fin 32} {v : Half} (hv : (readingsOf p b)[k] = some v) : v ∈ b.map := by
  rw [readingsOf_getElem] at hv
  split at hv
  · exact List.mem_of_getElem? hv
  · nomatch hv

theorem readingsOf_absent {k : Fin 32} (hk : p.layoutSlots ≤ k.val) : (readingsOf p b)[k] = none := by
  have habsent : activeSlot p b k = false := by simp [activeSlot, hk]
  rw [readingsOf_getElem, habsent]; rfl

/-- Readings are taken from the map, for existing slots only. -/
theorem Coherent.extractMap (h : Coherent p b) (hmap : b.mapValid = true) :
    Coherent p (b.setReadings (readingsOf p b) true) :=
  h.setReadings (fun _ => hmap) (fun _ _ => mem_map_of_readingsOf) fun _ => readingsOf_absent

/-- A new map agrees with the readings when there are none. -/
theorem Coherent.setMapOfCleared (h : Coherent p (b.setReadings noReadings false)) (m : List Half) (v : Bool) :
    Coherent p ((b.setReadings noReadings false).setMap m v) :=
  { h with
    readings_have_a_map := nofun
    readings_from_map := fun k _ hv => nomatch (noReadings_getElem k).symm.trans hv }

theorem Coherent.setSlot (h : Coherent p b) {k : Fin 32} (hk : k.val < p.layoutSlots) (l : Slot) :
    Coherent p (b.setSlot k l) :=
  { h with
    absent_slots_untouched := fun j hj => by
      have hne : k.val ≠ j.val := by omega
      simpa [Vector.getElem_set, hne] using h.absent_slots_untouched j hj }

/-- The status update records its error in the history. -/
theorem Coherent.setErr (h : Coherent p b) (e : ErrCode) (c : Cause := Cause.clear) : Coherent p (b.setErr e c) :=
  { h with
    error_is_in_history := by
      rw [Block.setErr_sticky, Block.setErr_err]
      rw [BitVec.or_comm]
      exact or_and_eq_of_and_eq BitVec.and_self }

end ComponentWrites
/-! ## Coherence under each operation -/

section Operations

variable {p : Config.Params} {b : Block}

/-- The history is emptied, and with it the last error. -/
theorem Coherent.clrSticky (h : Coherent p b) : Coherent p (clrSticky b) :=
  { h with error_is_in_history := by simp [Machine.clrSticky] }

theorem Coherent.crcInit (h : Coherent p b) : Coherent p (crcInit b) := (h.setCrc _).setErr _

theorem Coherent.crcByte (h : Coherent p b) : Coherent p (crcByte b) := (h.setCrc _).setErr _

theorem Coherent.crcCheckRx (h : Coherent p b) : Coherent p (crcCheckRx b) := by
  rw [crcCheckRx_eq]
  exact ((h.setCrc _).setCrcMatch _).setErr _ _

theorem Coherent.buildReq (h : Coherent p b) : Coherent p (buildReq p b) := by
  rw [buildReq_eq]
  cases hok : b.countOk p
  · exact h.dropTx.setErr _
  · exact (h.setRequest _ ((Block.countOk_iff p b).1 hok)).setErr _

theorem Coherent.rxClear (h : Coherent p b) : Coherent p (rxClear b) := h.clearRx.setErr _

/-- A byte is dropped only when the buffer is full, by R42 (a). -/
theorem Coherent.rxPush (h : Coherent p b) (hinv : BlockInv p b) (v : Byte) : Coherent p (rxPush p v b) := by
  unfold Machine.rxPush
  split
  · next hroom => exact h.appendRx v hroom
  · next hfull => exact (h.overflow (le_antisymm hinv.rx_within_cap (Nat.not_lt.1 hfull))).addSticky _

theorem Coherent.decodeResponse (h : Coherent p b) : Coherent p (decodeResponse b) := by
  rw [decodeResponse_eq]
  exact ((h.setCrcMatch _).clearReadings.setMapOfCleared _ _).setErr _ _

theorem Coherent.fieldAt (h : Coherent p b) : Coherent p (fieldAt b) := by
  rw [fieldAt_eq]
  exact (h.setResult _).setErr _

theorem Coherent.layoutCheck (h : Coherent p b) : Coherent p (layoutCheck p b) := by
  rw [layoutCheck_eq]
  exact h.setErr _

theorem Coherent.extractReadings (h : Coherent p b) : Coherent p (extractReadings p b) := by
  rw [extractReadings_eq]
  cases hok : b.extractable p
  · exact h.clearReadings.setErr _
  · exact (h.extractMap (Block.mapValid_of_extractable hok)).setErr _

theorem Coherent.effect (h : Coherent p b) (hinv : BlockInv p b) (i : Instr)
    (hslot : ∀ k data, i = .wrLayout k data → k.val < p.layoutSlots) : Coherent p (effect p i b) := by
  cases i
  case nop | illegalCmd => exact h.setErr _
  case clrSticky => exact h.clrSticky
  case crcInit => exact h.crcInit
  case crcByte => exact h.crcByte
  case crcCheckRx => exact h.crcCheckRx
  case buildReq => exact h.buildReq
  case rxClear => exact h.rxClear
  case decode => exact h.decodeResponse
  case field => exact h.fieldAt
  case layoutCheck => exact h.layoutCheck
  case extract => exact h.extractReadings
  case wrCrc data => exact h.setCrc _
  case wrArg0 data => exact h.setArg0 _
  case wrArg1 data => exact h.setArg1 _
  case wrRxData data => exact h.rxPush hinv _
  case wrLayout k data => exact h.setSlot (hslot k data rfl) _
  all_goals exact h

end Operations

/-! ## Coherence under a step -/

theorem coherent_reset (p : Config.Params) : Coherent p Block.reset where
  tx_is_a_request := nofun
  overflow_means_full := nofun
  readings_have_a_map := nofun
  readings_from_map k _ hv := nomatch (noReadings_getElem k).symm.trans hv
  error_is_in_history := rfl
  absent_slots_untouched k _ := ⟨by simp [Block.reset], noReadings_getElem k⟩

theorem Coherent.of_exec {i : Instr} {s t : State} (h : Coherent s.cfg s.block) (hinv : BlockInv s.cfg s.block)
    (hexec : exec i s = .next t) : Coherent t.cfg t.block := by
  obtain ⟨hblock, hcfg, -, hslot⟩ := exec_next hexec
  rw [hcfg, hblock]
  exact h.effect hinv i hslot

/-- Settles O15, by the three kinds of step: none, the reset input, a transaction. -/
theorem coherenceKeptByStep : Obligations.CoherenceKeptByStep := by
  intro s t hinv h hstep
  obtain ⟨-, rfl⟩ | ⟨rest, -, rfl⟩ | ⟨w, rest, i, -, -, hexec⟩ := step_cases hstep
  · exact h
  · exact coherent_reset _
  · exact Coherent.of_exec (s := s.accept rest) h hinv.block_inv hexec

/-- Settles O11: neither the reset input nor an operation writes the parameters. -/
theorem configurationFixed : Obligations.ConfigurationFixed := by
  intro s t hstep
  obtain ⟨-, rfl⟩ | ⟨rest, -, rfl⟩ | ⟨w, rest, i, -, -, hexec⟩ := step_cases hstep
  · rfl
  · rfl
  · obtain ⟨-, hcfg, -, -⟩ := exec_next hexec
    exact hcfg

end Sys2Proof.Safety

/-! ## The status history (10_state.md R33, 44_control.md R232) -/

namespace Sys2Proof.Machine

/-- The sticky bit of a code `e` is bit `e - 1`. -/
theorem getLsbD_stickyBit (e : ErrCode) {j : Nat} (hj : j < 5) :
    e.stickyBit.getLsbD j = true ↔ e.code.toNat = j + 1 := by
  revert j
  cases e <;> decide

theorem getLsbD_stickyRxOverflow {j : Nat} (hj : j < 5) : stickyRxOverflow.getLsbD j = true ↔ j = 4 := by
  revert j
  decide

/-- Every command ends in a status update, and before it writes the history only if it is CLR_STICKY. -/
theorem effect_of_command (p : Config.Params) {i : Instr} (hcls : i.cls = .command) (b : Block) :
    ∃ (b' : Block) (e : ErrCode) (c : Cause), effect p i b = b'.setErr e c ∧
      b'.sticky = if i = .clrSticky then 0b00000#5 else b.sticky := by
  cases i
  case nop | illegalCmd => exact ⟨b, _, _, rfl, rfl⟩
  case clrSticky => exact ⟨_, _, _, rfl, rfl⟩
  case crcInit => exact ⟨_, _, _, rfl, rfl⟩
  case crcByte => exact ⟨_, _, _, rfl, rfl⟩
  case crcCheckRx => exact ⟨_, _, _, crcCheckRx_eq b, rfl⟩
  case buildReq => exact ⟨_, _, _, buildReq_eq p b, rfl⟩
  case rxClear => exact ⟨_, _, _, rfl, rfl⟩
  case decode => exact ⟨_, _, _, decodeResponse_eq b, rfl⟩
  case field => exact ⟨_, _, _, fieldAt_eq b, rfl⟩
  case layoutCheck => exact ⟨_, _, _, layoutCheck_eq p b, rfl⟩
  case extract => exact ⟨_, _, _, extractReadings_eq p b, rfl⟩
  all_goals nomatch hcls

theorem effect_sticky_of_not_command (p : Config.Params) {i : Instr} (hcls : i.cls ≠ .command)
    (hpush : ∀ d, i ≠ .wrRxData d) (b : Block) : (effect p i b).sticky = b.sticky := by
  cases i
  case wrRxData d => exact absurd rfl (hpush d)
  case wrCrc | wrArg0 | wrArg1 | wrLayout => rfl
  case rdStatus | rdCrc | rdArg0 | rdArg1 | rdResult | rdRxLen | rdMapCount | rdParam0 | rdParam1 | rdTxW0 | rdTxW1 |
      rdLayout | rdReading => rfl
  all_goals exact absurd rfl hcls

/-- One bit of the history after a command. -/
theorem sticky_after_command {p : Config.Params} {i : Instr} (hcls : i.cls = .command) (b : Block) {j : Nat}
    (hj : j < 5) : (effect p i b).sticky.getLsbD j = true ↔
      (i ≠ .clrSticky ∧ b.sticky.getLsbD j = true) ∨ (effect p i b).err.code.toNat = j + 1 := by
  obtain ⟨b', e, c, heffect, hsticky⟩ := effect_of_command p hcls b
  rw [heffect, Block.setErr_sticky, Block.setErr_err, BitVec.getLsbD_or, Bool.or_eq_true, getLsbD_stickyBit e hj, hsticky]
  by_cases hclr : i = .clrSticky <;> simp [hclr]

/-- One bit of the history after a push. -/
theorem sticky_after_push (p : Config.Params) (d : Word) (b : Block) {j : Nat} (hj : j < 5) :
    (effect p (.wrRxData d) b).sticky.getLsbD j = true ↔
      b.sticky.getLsbD j = true ∨ (j = 4 ∧ p.rxCap ≤ b.rx.length) := by
  rw [effect, rxPush_eq, Block.setSticky_sticky]
  split
  · next hroom => simp [Nat.not_le.2 hroom]
  · next hfull => simp [getLsbD_stickyRxOverflow hj, Nat.not_lt.1 hfull]

/-- Settles O20, by the kind of operation: a command, a push, any other. -/
theorem stickyHistory : Obligations.StickyHistory := by
  refine ⟨fun i s t j hj hexec => ?_, fun s rest hp => ⟨s.resetInput rest, by rw [step, hp], rfl⟩⟩
  obtain ⟨hblock, -, -, -⟩ := exec_next hexec
  rw [hblock]
  by_cases hcls : i.cls = .command
  · have hpush : ∀ d, i ≠ .wrRxData d := by rintro d rfl; nomatch hcls
    simp [sticky_after_command hcls s.block hj, hcls, hpush]
  · have hclr : i ≠ .clrSticky := by rintro rfl; exact hcls rfl
    by_cases hpush : ∃ d, i = .wrRxData d
    · obtain ⟨d, rfl⟩ := hpush
      simp [sticky_after_push s.cfg d s.block hj, hcls]
    · have hsticky := effect_sticky_of_not_command s.cfg hcls (not_exists.1 hpush) s.block
      simp [hsticky, hcls, hclr, hpush]

end Sys2Proof.Machine

/-! ## Which operations write what (10_state.md R21 to R30) -/

namespace Sys2Proof.Machine

theorem fieldAt_ok_of_result_ne {b : Block} (h : (fieldAt b).result ≠ b.result) : (fieldAt b).err = .ok := by
  rw [fieldAt_eq] at h ⊢
  cases hmap : b.map[b.relativeIndex]? <;> simp_all

theorem buildReq_ok_of_tx_ne {p : Config.Params} {b : Block} (h : (buildReq p b).tx ≠ b.tx) :
    (buildReq p b).err = .ok := by
  rw [buildReq_eq] at h ⊢
  cases hok : b.countOk p <;> simp_all

theorem rxPush_rx_of_ne {p : Config.Params} {v : Byte} {b : Block} (h : (rxPush p v b).rx ≠ b.rx) :
    (rxPush p v b).rx = b.rx ++ [v] := by
  rw [rxPush_eq] at h ⊢
  by_cases hroom : b.rx.length < p.rxCap <;> simp_all

theorem rxPush_full_of_rxOvf_ne {p : Config.Params} {v : Byte} {b : Block} (h : (rxPush p v b).rxOvf ≠ b.rxOvf) :
    p.rxCap ≤ b.rx.length := by
  by_contra hroom
  exact h (by simp [rxPush_eq, Nat.not_le.1 hroom])

theorem setSlot_layout_of_ne (b : Block) {k j : Fin 32} (l : Slot) (hkj : k ≠ j) :
    (b.setSlot j l).layout[k] = b.layout[k] :=
  Vector.getElem_set_ne j.isLt k.isLt fun h => hkj (Fin.ext h.symm)

/-- Settles O28: a working register occurs in the updates of its writers only, and FIELD writes RESULT when the index is
in the map. -/
theorem workingRegisterWriters : Obligations.WorkingRegisterWriters := by
  intro i s t hexec
  obtain ⟨hblock, -, -, -⟩ := exec_next hexec
  rw [hblock]
  cases i
  case field =>
    have hok := fieldAt_ok_of_result_ne (b := s.block)
    refine ⟨?_, ?_, ?_, fun hne => ⟨rfl, hok hne⟩⟩ <;> simp [effect, fieldAt_eq]
  all_goals
    simp [effect, crcInit, crcByte, crcCheckRx_eq, buildReq_eq, rxClear, rxPush_eq, decodeResponse_eq,
      Block.beginDecode, layoutCheck_eq, extractReadings_eq, clrSticky]

/-- Settles O29: a buffer occurs in the updates of its writers only; those are BUILD_REQ, a push, RX_CLEAR and DECODE. -/
theorem bufferWriters : Obligations.BufferWriters := by
  intro i s t hexec
  obtain ⟨hblock, -, -, -⟩ := exec_next hexec
  rw [hblock]
  cases i
  case buildReq =>
    refine ⟨fun hne => ⟨rfl, buildReq_ok_of_tx_ne hne⟩, ?_⟩
    simp [effect, buildReq_eq]
  case wrRxData d =>
    refine ⟨?_, ?_, ?_, fun hne => .inr ⟨d, _, rfl, rxPush_rx_of_ne hne⟩,
      fun hne => .inr ⟨d, rfl, rxPush_full_of_rxOvf_ne hne⟩, ?_⟩ <;> simp [effect, rxPush_eq]
  all_goals
    simp [effect, crcInit, crcByte, crcCheckRx_eq, rxClear, decodeResponse_eq, Block.beginDecode, fieldAt_eq,
      layoutCheck_eq, extractReadings_eq, clrSticky]

/-- Settles O30: the tables occur in the updates of WR_LAYOUT, EXTRACT and DECODE only. -/
theorem tableWriters : Obligations.TableWriters := by
  intro i s t k hexec
  obtain ⟨hblock, -, -, -⟩ := exec_next hexec
  rw [hblock]
  cases i
  case wrLayout j d =>
    refine ⟨fun hne => ?_, by simp [effect]⟩
    obtain rfl : k = j := by_contra fun hkj => hne (setSlot_layout_of_ne _ _ hkj)
    exact ⟨d, rfl⟩
  case decode => simpa [effect, decodeResponse_eq, Block.beginDecode] using Safety.noReadings_getElem k
  all_goals
    simp [effect, crcInit, crcByte, crcCheckRx_eq, buildReq_eq, rxClear, rxPush_eq, fieldAt_eq, layoutCheck_eq,
      extractReadings_eq, clrSticky]

end Sys2Proof.Machine

/-! ## The single-field registers and the LAYOUT words (10_state.md R35, R38) -/

namespace Sys2Proof.Safety

open Sys2Proof.Machine

/-- The word of a read at a register the address map always has, with any `DATA` (20_memory.md R61). -/
theorem readWord_of_regAt {a : Addr} {r : Reg} {i : Instr} (haligned : a.extractLsb' 0 2 = 0#2)
    (hreg : ∀ p, regAt p a = some r) (hread : readOf r = some i) : ReadWord (mkTrans false a 0#32) i := by
  intro d p
  rw [mkTrans_or]
  simp [decodeWord, haligned, hreg, hread]

theorem toNat_zextWord (v : Half) : (zextWord v).toNat = v.toNat :=
  BitVec.toNat_setWidth_of_le (by decide)

theorem toNat_lengthWord {n : Nat} (h : n < 2 ^ 32) : (lengthWord n).toNat = n := by
  rw [lengthWord, BitVec.toNat_ofNat, Nat.mod_eq_of_lt h]

theorem StateInv.rx_length_lt {s : State} (h : StateInv s) : s.block.rx.length < 2 ^ 32 := by
  obtain ⟨⟨-, -, hcap, -⟩, hinv⟩ := h
  have := hinv.rx_within_cap
  omega

theorem StateInv.map_length_lt {s : State} (h : StateInv s) : s.block.map.length < 2 ^ 32 := by
  have hmap := h.block_inv.map_within_cap
  rw [Config.Params.mapCap] at hmap
  omega

/-- Settles O25: the words are reads of R61's map, and R42 (a), (c) bound the two lengths. -/
theorem singleFieldRegisters : Obligations.SingleFieldRegisters := by
  refine ⟨⟨?_, ?_, ?_, ?_, ?_, ?_⟩, fun s hinv => ?_, fun s d e h => ?_⟩
  · exact readWord_of_regAt (a := 0x008#12) rfl (fun _ => rfl) rfl
  · exact readWord_of_regAt (a := 0x00C#12) rfl (fun _ => rfl) rfl
  · exact readWord_of_regAt (a := 0x010#12) rfl (fun _ => rfl) rfl
  · exact readWord_of_regAt (a := 0x014#12) rfl (fun _ => rfl) rfl
  · exact readWord_of_regAt (a := 0x018#12) rfl (fun _ => rfl) rfl
  · exact readWord_of_regAt (a := 0x020#12) rfl (fun _ => rfl) rfl
  · exact ⟨_, _, _, _, _, _, rfl, toNat_zextWord _, rfl, toNat_zextWord _, rfl, toNat_zextWord _, rfl,
      toNat_zextWord _, rfl, toNat_lengthWord hinv.rx_length_lt, rfl, toNat_lengthWord hinv.map_length_lt⟩
  · have hhalf : dataHalf d = dataHalf e := h
    simp [exec, execWrCrc, execWrArg0, execWrArg1, hhalf]

/-- The mask of the LAYOUT word's fields, bit by bit. -/
theorem getLsbD_layoutMask : ∀ i < 32, (0xC0FFFFFF#32).getLsbD i = (decide (i < 24) || decide (30 ≤ i)) := by
  decide

/-- The fields from the low end: INDEX, NAME_ID, the reserved bits, RESERVED, VALID (10_state.md R35). -/
theorem slotWord_dataSlot (d : Word) : slotWord (dataSlot d) = d &&& 0xC0FFFFFF#32 := by
  apply BitVec.eq_of_getLsbD_eq
  intro i hi
  rw [BitVec.getLsbD_and, getLsbD_layoutMask i hi]
  simp only [slotWord, dataSlot, BitVec.getLsbD_append, BitVec.getLsbD_ofBool, BitVec.getLsbD_extractLsb']
  split_ifs with hindex hname hreserved hflag
  · have hkept : i < 24 := by omega
    simp [hindex, hkept]
  · have hkept : i < 24 := by omega
    have hbit : 16 + (i - 16) = i := by omega
    simp [hname, hkept, hbit]
  · have hlow : ¬ i < 24 := by omega
    have hhigh : ¬ 30 ≤ i := by omega
    simp [hlow, hhigh]
  · obtain rfl : i = 30 := by omega
    simp
  · obtain rfl : i = 31 := by omega
    simp

/-- Settles O50: what the slot keeps of the word is the word without its reserved bits. -/
theorem layoutReadBack : Obligations.LayoutReadBack := by
  intro s k d hk
  refine ⟨{ s with block := s.block.setSlot k (dataSlot d) }, if_pos hk, ?_⟩
  rw [← slotWord_dataSlot]
  simp [exec, execRdLayout, hk, State.read]

end Sys2Proof.Safety

/-! # Proofs, 20_memory.md: the address map, bus errors, what a transaction changes -/

/-! ## The address map (20_memory.md R61, R62) -/

namespace Sys2Proof

theorem aligned_iff (a : Addr) : a.extractLsb' 0 2 = 0#2 ↔ a.toNat % 4 = 0 := by
  simp [← BitVec.toNat_inj]

theorem slotOf_val (a : Addr) : (slotOf a).val = a.toNat / 4 % 32 := by
  simp [slotOf, Nat.shiftRight_eq_div_pow]

theorem toNat_layoutAddr (k : Fin 32) : (layoutAddr k).toNat = 0x080 + 4 * k.val := by
  revert k; decide

theorem toNat_readingAddr (k : Fin 32) : (readingAddr k).toNat = 0x100 + 4 * k.val := by
  revert k; decide

theorem regAt_of_layoutWindow (p : Config.Params) {a : Addr} (h : 0x080 ≤ a.toNat ∧ a.toNat ≤ 0x0FC) :
    regAt p a = if (slotOf a).val < p.layoutSlots then some (.layout (slotOf a)) else none := by
  unfold regAt
  split
  case h_14 => exact if_pos h
  all_goals omega

theorem regAt_of_readingWindow (p : Config.Params) {a : Addr} (h : 0x100 ≤ a.toNat ∧ a.toNat ≤ 0x17C) :
    regAt p a = if (slotOf a).val < p.layoutSlots then some (.reading (slotOf a)) else none := by
  have hlayout : ¬ (0x080 ≤ a.toNat ∧ a.toNat ≤ 0x0FC) := by omega
  unfold regAt
  split
  case h_14 => rw [if_neg hlayout, if_pos h]
  all_goals omega

/-- The address of a register (20_memory.md R61). -/
def Reg.addr : Reg → Addr
  | .cmd => 0x000#12
  | .status => 0x004#12
  | .crc => 0x008#12
  | .arg0 => 0x00C#12
  | .arg1 => 0x010#12
  | .result => 0x014#12
  | .rxLen => 0x018#12
  | .rxData => 0x01C#12
  | .mapCount => 0x020#12
  | .param0 => 0x024#12
  | .param1 => 0x028#12
  | .txW0 => 0x040#12
  | .txW1 => 0x044#12
  | .layout k => layoutAddr k
  | .reading k => readingAddr k

/-- The register exists: a slot's does when its number is below `LAYOUT_SLOTS` (20_memory.md R62). -/
def Reg.Present (p : Config.Params) : Reg → Prop
  | .layout k => k.val < p.layoutSlots
  | .reading k => k.val < p.layoutSlots
  | _ => True

/-- A register the decoder finds exists and stands at its address. -/
theorem regAt_eq_some {p : Config.Params} {a : Addr} {r : Reg} (haligned : a.extractLsb' 0 2 = 0#2)
    (h : regAt p a = some r) : r.Present p ∧ a = r.addr := by
  rw [aligned_iff] at haligned
  by_cases hlayout : 0x080 ≤ a.toNat ∧ a.toNat ≤ 0x0FC
  · rw [regAt_of_layoutWindow p hlayout, Option.ite_none_right_eq_some] at h
    obtain ⟨hk, ⟨⟩⟩ := h
    refine ⟨hk, BitVec.eq_of_toNat_eq ?_⟩
    rw [Reg.addr, toNat_layoutAddr, slotOf_val]
    omega
  by_cases hreading : 0x100 ≤ a.toNat ∧ a.toNat ≤ 0x17C
  · rw [regAt_of_readingWindow p hreading, Option.ite_none_right_eq_some] at h
    obtain ⟨hk, ⟨⟩⟩ := h
    refine ⟨hk, BitVec.eq_of_toNat_eq ?_⟩
    rw [Reg.addr, toNat_readingAddr, slotOf_val]
    omega
  unfold regAt at h
  split at h
  case h_14 => rw [if_neg hlayout, if_neg hreading] at h; nomatch h
  all_goals
    next ha =>
    obtain ⟨⟩ := h
    exact ⟨trivial, BitVec.eq_of_toNat_eq ha⟩

/-- Settles O5: in each window the register at the address is the slot's, if the slot exists. -/
theorem slotWindows : Obligations.SlotWindows := by
  intro p a w d haligned
  refine ⟨fun hwin => ⟨slotOf a, rfl, ?_⟩, fun hwin => ⟨slotOf a, rfl, ?_⟩⟩
  · have hreg := regAt_of_layoutWindow p hwin
    by_cases hk : (slotOf a).val < p.layoutSlots
    · rw [if_pos hk] at hreg ⊢
      cases w <;> simp [decodeWord, haligned, hreg, readOf, writeOf]
    · rw [if_neg hk] at hreg ⊢
      simp [decodeWord, haligned, hreg]
  · have hreg := regAt_of_readingWindow p hwin
    by_cases hk : (slotOf a).val < p.layoutSlots
    · rw [if_pos hk] at hreg ⊢
      cases w <;> simp [decodeWord, haligned, hreg, readOf, writeOf]
    · rw [if_neg hk] at hreg ⊢
      simp [decodeWord, haligned, hreg]

end Sys2Proof

/-! ## What the decoder accepts (30_encoding.md R93) -/

namespace Sys2Proof

theorem decodeWord_eq_ok_iff (p : Config.Params) (t : Trans) (i : Instr) :
    decodeWord p t = .ok i ↔ transSz t = szWord ∧ (transAddr t).extractLsb' 0 2 = 0#2 ∧
      ∃ r, regAt p (transAddr t) = some r ∧ (if transW t then writeOf r (transData t) else readOf r) = some i := by
  unfold decodeWord
  split
  · next hsz => simp [hsz]
  split
  · next hmis => simp [hmis]
  next hsz hal =>
  rw [not_not] at hsz hal
  cases hreg : regAt p (transAddr t) with
  | none => simp
  | some r =>
    cases hop : (if transW t then writeOf r (transData t) else readOf r) with
    | none => simp [hop]
    | some j => simp [hop, hsz, hal]

theorem isIllegalCommandWord_iff (data : Word) :
    isIllegalCommandWord data = true ↔ data.extractLsb' 8 24 ≠ 0#24 ∨ 0x0A < (data.extractLsb' 0 8).toNat := by
  simp [isIllegalCommandWord]

/-- An opcode that is none of the eleven is above 0x0A. -/
theorem wellFormed_commandOf (p : Config.Params) (data : Word) : WellFormed p (commandOf data) := by
  unfold commandOf
  split
  · unfold commandOfOpcode
    split
    case h_12 =>
      simp only [imp_false] at *
      exact (isIllegalCommandWord_iff data).2 (.inr (by omega))
    all_goals rfl
  · next hhigh => exact (isIllegalCommandWord_iff data).2 (.inl hhigh)

theorem wellFormed_of_decodeWord {p : Config.Params} {t : Trans} {i : Instr} (h : decodeWord p t = .ok i) :
    WellFormed p i := by
  obtain ⟨-, hal, r, hreg, hop⟩ := (decodeWord_eq_ok_iff p t i).1 h
  obtain ⟨hpresent, -⟩ := regAt_eq_some hal hreg
  split at hop
  · cases r
    case cmd => obtain ⟨⟩ := hop; exact wellFormed_commandOf _ _
    case layout k => obtain ⟨⟩ := hop; exact decide_eq_true hpresent
    case crc | arg0 | arg1 | rxData => obtain ⟨⟩ := hop; rfl
    all_goals nomatch hop
  · cases r
    case cmd | rxData => nomatch hop
    case layout k | reading k => obtain ⟨⟩ := hop; exact decide_eq_true hpresent
    all_goals obtain ⟨⟩ := hop; rfl

end Sys2Proof

/-! ## What a transaction changes (20_memory.md R66, R71, R72) -/

namespace Sys2Proof.Machine

/-- Settles O23: a read answers by the one operation of reads; a slot's read first asks that the slot exists. -/
theorem readsLeaveTheBlock : Obligations.ReadsLeaveTheBlock := by
  intro i s hcls hwf
  cases i
  case rdLayout k | rdReading k => exact ⟨_, if_pos (of_decide_eq_true hwf)⟩
  case rdStatus | rdCrc | rdArg0 | rdArg1 | rdResult | rdRxLen | rdMapCount | rdParam0 | rdParam1 | rdTxW0 | rdTxW1 =>
    exact ⟨_, rfl⟩
  all_goals nomatch hcls

/-- Every operation but a read answers the state with its effect on the block. -/
theorem exec_of_not_read {i : Instr} {s : State} (hcls : i.cls ≠ .registerRead) (hwf : WellFormed s.cfg i) :
    exec i s = .next { s with block := effect s.cfg i s.block } := by
  cases i
  case wrLayout k data => exact if_pos (of_decide_eq_true hwf)
  case rdStatus | rdCrc | rdArg0 | rdArg1 | rdResult | rdRxLen | rdMapCount | rdParam0 | rdParam1 | rdTxW0 | rdTxW1 |
      rdLayout | rdReading => exact absurd rfl hcls
  all_goals rfl

/-- Settles O24: the block is the operation's effect. -/
theorem writesChangeOnlyTheBlock : Obligations.WritesChangeOnlyTheBlock :=
  fun _ _ hcls hwf => ⟨_, exec_of_not_read hcls hwf⟩

theorem exec_completes {i : Instr} {s : State} (hwf : WellFormed s.cfg i) : ∃ t, exec i s = .next t := by
  by_cases hcls : i.cls = .registerRead
  · obtain ⟨w, hexec⟩ := readsLeaveTheBlock i s hcls hwf
    exact ⟨_, hexec⟩
  · exact ⟨_, exec_of_not_read hcls hwf⟩

/-- A register write that completes is of a register that exists. -/
theorem wellFormed_of_exec_write {i : Instr} {s t : State} (hcls : i.cls = .registerWrite)
    (hexec : exec i s = .next t) : WellFormed s.cfg i := by
  obtain ⟨-, -, -, hslot⟩ := exec_next hexec
  cases i
  case wrLayout k data => exact decide_eq_true (hslot k data rfl)
  case wrCrc | wrArg0 | wrArg1 | wrRxData => rfl
  all_goals nomatch hcls

theorem setSlot_setSlot (b : Block) (k : Fin 32) (l : Slot) : (b.setSlot k l).setSlot k l = b.setSlot k l := by
  simp [Block.setSlot]

/-- A register write but a push stores a value that does not depend on the block. -/
theorem effect_write_idempotent (p : Config.Params) {i : Instr} (hcls : i.cls = .registerWrite)
    (hpush : ∀ d, i ≠ .wrRxData d) (b : Block) : effect p i (effect p i b) = effect p i b := by
  cases i
  case wrRxData d => exact absurd rfl (hpush d)
  case wrLayout k data => exact setSlot_setSlot b k _
  case wrCrc | wrArg0 | wrArg1 => rfl
  all_goals nomatch hcls

theorem rxPush_of_room {p : Config.Params} {b : Block} (v : Byte) (h : b.rx.length < p.rxCap) :
    rxPush p v b = b.setRx (b.rx ++ [v]) := if_pos h

/-- Settles O27: the stored value is the same both times, and a push appends while there is room. -/
theorem idempotentWrites : Obligations.IdempotentWrites := by
  refine ⟨fun i s t hcls hpush hexec => ?_, fun s d hroom => ⟨_, _, rfl, rfl, ?_⟩⟩
  · have hwf := wellFormed_of_exec_write hcls hexec
    have hnotRead : i.cls ≠ .registerRead := by rw [hcls]; decide
    obtain ⟨⟩ := (exec_of_not_read hnotRead hwf).symm.trans hexec
    have hagain := exec_of_not_read (s := { s with block := effect s.cfg i s.block }) hnotRead hwf
    rw [hagain, effect_write_idempotent s.cfg hcls hpush]
  · have hfirst : s.block.rx.length < s.cfg.rxCap := by omega
    simp [rxPush_of_room, hfirst, hroom, dataByte]

end Sys2Proof.Machine

/-! ## Which transactions are bus errors (20_memory.md R66) -/

namespace Sys2Proof.Machine

/-- Settles O6: the transaction is taken off the program before its operation runs. -/
theorem stepRunsDecodedTransaction : Obligations.StepRunsDecodedTransaction := by
  intro s t rest i hprog hdec
  simp [step, hprog, hdec, State.accept]

theorem step_of_rejected {s : State} {t : Trans} {rest : List HostEvent} {e : BusErrorCause}
    (hprog : s.port.program = .transaction t :: rest) (hdec : decodeWord s.cfg t = .error e) :
    step s = .fault (.busError (transW t) (transSz t) (transAddr t)) := by
  simp [step, hprog, hdec, busFaultOf, busFault]

end Sys2Proof.Machine

namespace Sys2Proof.Safety

open Sys2Proof.Machine

theorem layoutAddress_iff {p : Config.Params} (hslots : p.layoutSlots ≤ 32) {a : Addr}
    (haligned : a.extractLsb' 0 2 = 0#2) : LayoutAddress p a.toNat ↔ ∃ k, regAt p a = some (.layout k) := by
  constructor
  · rintro ⟨hlow, hhigh, hmod⟩
    have hk : (slotOf a).val < p.layoutSlots := by rw [slotOf_val]; omega
    exact ⟨slotOf a, by rw [regAt_of_layoutWindow p (by omega), if_pos hk]⟩
  · rintro ⟨k, hreg⟩
    obtain ⟨hk, rfl⟩ := regAt_eq_some haligned hreg
    rw [Reg.Present] at hk
    rw [Reg.addr, toNat_layoutAddr]
    omega

theorem readingAddress_iff {p : Config.Params} (hslots : p.layoutSlots ≤ 32) {a : Addr}
    (haligned : a.extractLsb' 0 2 = 0#2) : ReadingAddress p a.toNat ↔ ∃ k, regAt p a = some (.reading k) := by
  constructor
  · rintro ⟨hlow, hhigh, hmod⟩
    have hk : (slotOf a).val < p.layoutSlots := by rw [slotOf_val]; omega
    exact ⟨slotOf a, by rw [regAt_of_readingWindow p (by omega), if_pos hk]⟩
  · rintro ⟨k, hreg⟩
    obtain ⟨hk, rfl⟩ := regAt_eq_some haligned hreg
    rw [Reg.Present] at hk
    rw [Reg.addr, toNat_readingAddr]
    omega

/-- The map permits a read exactly where there is a register the decoder reads. -/
theorem readable_iff {p : Config.Params} (hslots : p.layoutSlots ≤ 32) {a : Addr}
    (haligned : a.extractLsb' 0 2 = 0#2) :
    Readable p a.toNat ↔ ∃ i r, regAt p a = some r ∧ readOf r = some i := by
  rw [Readable, layoutAddress_iff hslots haligned, readingAddress_iff hslots haligned]
  constructor
  · rintro (hfixed | ⟨k, hreg⟩ | ⟨k, hreg⟩)
    · simp only [List.mem_cons, List.not_mem_nil, or_false] at hfixed
      rcases hfixed with h | h | h | h | h | h | h | h | h | h | h <;> simp [regAt, h, readOf]
    · exact ⟨_, _, hreg, rfl⟩
    · exact ⟨_, _, hreg, rfl⟩
  · rintro ⟨i, r, hreg, hread⟩
    cases r
    case cmd | rxData => nomatch hread
    case layout k => exact .inr (.inl ⟨k, hreg⟩)
    case reading k => exact .inr (.inr ⟨k, hreg⟩)
    all_goals
      obtain ⟨-, rfl⟩ := regAt_eq_some haligned hreg
      exact .inl (by decide)

/-- The map permits a write exactly where there is a register the decoder writes. -/
theorem writable_iff {p : Config.Params} (hslots : p.layoutSlots ≤ 32) {a : Addr}
    (haligned : a.extractLsb' 0 2 = 0#2) (d : Word) :
    Writable p a.toNat ↔ ∃ i r, regAt p a = some r ∧ writeOf r d = some i := by
  rw [Writable, layoutAddress_iff hslots haligned]
  constructor
  · rintro (hfixed | ⟨k, hreg⟩)
    · simp only [List.mem_cons, List.not_mem_nil, or_false] at hfixed
      rcases hfixed with h | h | h | h | h <;> simp [regAt, h, writeOf]
    · exact ⟨_, _, hreg, rfl⟩
  · rintro ⟨i, r, hreg, hwrite⟩
    cases r
    case layout k => exact .inr ⟨k, hreg⟩
    case cmd | crc | arg0 | arg1 | rxData =>
      obtain ⟨-, rfl⟩ := regAt_eq_some haligned hreg
      exact .inl (by decide)
    all_goals nomatch hwrite

/-- A transaction is accepted when its size and address are and its direction is permitted. -/
theorem not_busErrorCond_iff (p : Config.Params) (w : Bool) (sz : BitVec 2) (a : Addr) :
    ¬ BusErrorCond p w sz a ↔
      sz = szWord ∧ a.extractLsb' 0 2 = 0#2 ∧ if w then Writable p a.toNat else Readable p a.toNat := by
  cases w <;> simp only [BusErrorCond, szWord] <;> tauto

/-- The decoder accepts exactly the transactions that are no bus error by the numbers of the address map. -/
theorem decodes_iff {p : Config.Params} (hslots : p.layoutSlots ≤ 32) (t : Trans) :
    (∃ i, decodeWord p t = .ok i) ↔ ¬ BusErrorCond p (transW t) (transSz t) (transAddr t) := by
  simp only [not_busErrorCond_iff, decodeWord_eq_ok_iff, exists_and_left]
  refine and_congr_right fun _ => and_congr_right fun haligned => ?_
  cases transW t
  · exact (readable_iff hslots haligned).symm
  · exact (writable_iff hslots haligned (transData t)).symm

/-- Settles O7: the decoder rejects a transaction exactly under the conditions, and what it accepts completes. -/
theorem busErrorExactly : Obligations.BusErrorExactly := by
  intro s t rest hcfg hprog
  obtain ⟨-, -, -, -, hslots⟩ := hcfg
  have hdecodes := decodes_iff hslots t
  cases hdec : decodeWord s.cfg t with
  | ok i =>
    obtain ⟨u, hexec⟩ := exec_completes (s := s.accept rest) (wellFormed_of_decodeWord hdec)
    have hstep : step s = .next u := (stepRunsDecodedTransaction s t rest i hprog hdec).trans hexec
    have haccepted := hdecodes.1 ⟨i, hdec⟩
    simp [hstep, haccepted]
  | error e =>
    have hrejected : ¬ ∃ i, decodeWord s.cfg t = .ok i := by simp [hdec]
    rw [hdecodes, not_not] at hrejected
    simp [step_of_rejected hprog hdec, hrejected]

end Sys2Proof.Safety

/-! # Proofs, 30_encoding.md: encoder and decoder are inverse, the opcode table -/

/-! ## A register at its address (20_memory.md R61, R62) -/

namespace Sys2Proof

theorem Reg.addr_aligned (r : Reg) : r.addr.extractLsb' 0 2 = 0#2 := by
  cases r
  case layout k => exact Laws.TransactionForm.layoutAddr_aligned k
  case reading k => exact Laws.TransactionForm.readingAddr_aligned k
  all_goals rfl

/-- The decoder finds a register that exists at its address. -/
theorem Reg.regAt_addr {p : Config.Params} {r : Reg} (h : r.Present p) : regAt p r.addr = some r := by
  cases r
  case layout k =>
    have hwin : 0x080 ≤ (layoutAddr k).toNat ∧ (layoutAddr k).toNat ≤ 0x0FC := by
      rw [toNat_layoutAddr]; omega
    rw [Reg.addr, regAt_of_layoutWindow p hwin, slotOf_layoutAddr]
    exact if_pos h
  case reading k =>
    have hwin : 0x100 ≤ (readingAddr k).toNat ∧ (readingAddr k).toNat ≤ 0x17C := by
      rw [toNat_readingAddr]; omega
    rw [Reg.addr, regAt_of_readingWindow p hwin, slotOf_readingAddr]
    exact if_pos h
  all_goals rfl

theorem decodeWord_of_readOf {p : Config.Params} {r : Reg} {i : Instr} (hpresent : r.Present p)
    (h : readOf r = some i) (d : Word) : decodeWord p (mkTrans false r.addr d) = .ok i := by
  simp [decodeWord_eq_ok_iff, Reg.addr_aligned, Reg.regAt_addr hpresent, h]

theorem decodeWord_of_writeOf {p : Config.Params} {r : Reg} {d : Word} {i : Instr} (hpresent : r.Present p)
    (h : writeOf r d = some i) : decodeWord p (mkTrans true r.addr d) = .ok i := by
  simp [decodeWord_eq_ok_iff, Reg.addr_aligned, Reg.regAt_addr hpresent, h]

end Sys2Proof

/-! ## The command words (30_encoding.md R94, R95) -/

namespace Sys2Proof

/-- The opcodes above 0x0A are reserved. -/
theorem commandOfOpcode_of_reserved {op : Byte} (h : 0x0A < op.toNat) : commandOfOpcode op = none := by
  unfold commandOfOpcode
  split
  case h_12 => rfl
  all_goals omega

theorem commandOf_of_illegal {d : Word} (h : isIllegalCommandWord d = true) : commandOf d = .illegalCmd d := by
  by_cases hhigh : d.extractLsb' 8 24 = 0#24
  · have hop : 0x0A < (d.extractLsb' 0 8).toNat := by
      simpa [hhigh] using (isIllegalCommandWord_iff d).1 h
    rw [commandOf, if_pos hhigh, commandOfOpcode_of_reserved hop, Option.getD_none]
  · rw [commandOf, if_neg hhigh]

/-- A command word whose bits 31:8 are zero is chosen by its OPCODE alone. -/
theorem commandOf_zeroExtend (op : Byte) :
    commandOf (op.zeroExtend 32) = (commandOfOpcode op).getD (.illegalCmd (op.zeroExtend 32)) := by
  have hhigh : (op.zeroExtend 32).extractLsb' 8 24 = 0#24 := by
    ext i hi; simp
  have hlow : (op.zeroExtend 32).extractLsb' 0 8 = op := by
    simp [← BitVec.toNat_inj, op.isLt]
  rw [commandOf, if_pos hhigh, hlow]

/-- A word whose bits 31:8 are zero is its low byte. -/
theorem eq_zeroExtend_of_high_zero {d : Word} (h : d.extractLsb' 8 24 = 0#24) :
    d = (d.extractLsb' 0 8).zeroExtend 32 := by
  have hhigh : d.toNat / 256 % 2 ^ 24 = 0 := by
    simpa [← BitVec.toNat_inj, Nat.shiftRight_eq_div_pow] using h
  have hd := d.isLt
  apply BitVec.eq_of_toNat_eq
  rw [BitVec.toNat_setWidth, BitVec.extractLsb'_toNat, Nat.shiftRight_zero]
  omega

theorem encode_of_commandOfOpcode {op : Byte} {i : Instr} (h : commandOfOpcode op = some i) :
    encode i = encodeCommand (op.zeroExtend 32) := by
  rw [BitVec.zeroExtend, ← BitVec.ofNat_toNat]
  unfold commandOfOpcode at h
  split at h
  case h_12 => nomatch h
  all_goals
    next hop =>
    obtain ⟨⟩ := h
    rw [hop, encode]

/-- A command word is the word of the command it selects, legal or not. -/
theorem encode_commandOf (d : Word) : encode (commandOf d) = encodeCommand d := by
  by_cases hhigh : d.extractLsb' 8 24 = 0#24
  · rw [eq_zeroExtend_of_high_zero hhigh, commandOf_zeroExtend]
    cases hcmd : commandOfOpcode (d.extractLsb' 0 8) with
    | none => rfl
    | some i => exact encode_of_commandOfOpcode hcmd
  · rw [commandOf, if_neg hhigh, encode]

theorem cls_commandOf (d : Word) : (commandOf d).cls = .command := by
  unfold commandOf commandOfOpcode
  split
  · split <;> rfl
  · rfl

end Sys2Proof

/-! ## Round trips (30_encoding.md R90, R93) -/

namespace Sys2Proof

/-- The operation a register is read by is a read, and its word is a read at the register's address. -/
theorem encode_of_readOf {r : Reg} {i : Instr} (h : readOf r = some i) :
    encode i = mkTrans false r.addr 0#32 ∧ i.cls = .registerRead := by
  cases r
  case cmd | rxData => nomatch h
  all_goals obtain ⟨⟩ := h; exact ⟨rfl, rfl⟩

/-- The operation a register is written by is no read, and its word is a write at the register's address. -/
theorem encode_of_writeOf {r : Reg} {d : Word} {i : Instr} (h : writeOf r d = some i) :
    encode i = mkTrans true r.addr d ∧ i.cls ≠ .registerRead := by
  cases r
  case cmd =>
    obtain ⟨⟩ := h
    exact ⟨encode_commandOf d, by rw [cls_commandOf]; decide⟩
  case crc | arg0 | arg1 | rxData | layout => obtain ⟨⟩ := h; exact ⟨rfl, nofun⟩
  all_goals nomatch h

/-- The mask that clears `DATA`, bit by bit. -/
theorem getLsbD_dataMask : ∀ i < 47, (0x7FFF00000000#47).getLsbD i = decide (32 ≤ i) := by
  decide

theorem mkTrans_and_dataMask (w : Bool) (a : Addr) (d : Word) :
    mkTrans w a d &&& 0x7FFF00000000#47 = mkTrans w a 0#32 := by
  apply BitVec.eq_of_getLsbD_eq
  intro i hi
  rw [BitVec.getLsbD_and, getLsbD_dataMask i hi, getLsbD_mkTrans, getLsbD_mkTrans]
  by_cases h : i < 32
  · simp [h]
  · simp [h]; omega

/-- Settles O1: the word of an operation is a transaction at its register's address, where the decoder finds the
register again. The words without an operand are fixed, and the decoder evaluates on them. -/
theorem decodeOfEncode : Obligations.DecodeOfEncode := by
  intro p i hwf
  cases i
  case illegalCmd d =>
    exact decodeWord_of_writeOf (r := .cmd) trivial (congrArg some (commandOf_of_illegal hwf))
  case rdLayout k => exact decodeWord_of_readOf (r := .layout k) (of_decide_eq_true hwf :) rfl 0#32
  case wrLayout k d => exact decodeWord_of_writeOf (r := .layout k) (of_decide_eq_true hwf :) rfl
  case rdReading k => exact decodeWord_of_readOf (r := .reading k) (of_decide_eq_true hwf :) rfl 0#32
  case wrCrc d => exact decodeWord_of_writeOf (r := .crc) trivial rfl
  case wrArg0 d => exact decodeWord_of_writeOf (r := .arg0) trivial rfl
  case wrArg1 d => exact decodeWord_of_writeOf (r := .arg1) trivial rfl
  case wrRxData d => exact decodeWord_of_writeOf (r := .rxData) trivial rfl
  all_goals rfl

/-- Settles O2: an accepted word is made of its fields, and its address is that of the register it selects. -/
theorem encodeOfDecode : Obligations.EncodeOfDecode := by
  intro p t i h
  refine ⟨wellFormed_of_decodeWord h, ?_⟩
  obtain ⟨hsz, haligned, r, hreg, hop⟩ := (decodeWord_eq_ok_iff p t i).1 h
  obtain ⟨-, haddr⟩ := regAt_eq_some haligned hreg
  have hfields := mkTrans_fields t hsz
  split at hop
  · next hw =>
    obtain ⟨henc, hcls⟩ := encode_of_writeOf hop
    rw [if_neg hcls, henc, ← haddr, ← hw, hfields]
  · next hr =>
    obtain ⟨henc, hcls⟩ := encode_of_readOf hop
    rw [if_pos hcls, henc, ← haddr, ← hfields, mkTrans_and_dataMask]
    simp [hr]

/-- Settles O4: the word is the write of the OPCODE, zero-extended, at CMD. -/
theorem commandOpcodeMap : Obligations.CommandOpcodeMap := by
  intro p op
  have hword : 0x600000000000#47 ||| op.zeroExtend 47 = mkTrans true Reg.cmd.addr (op.zeroExtend 32) := by
    have hwide : (op.zeroExtend 32).zeroExtend 47 = op.zeroExtend 47 := by simp
    rw [← mkTrans_or, hwide]
    rfl
  rw [hword, decodeWord_of_writeOf (r := .cmd) trivial rfl, commandOf_zeroExtend]
  split
  case h_12 =>
    simp only [imp_false] at *
    have hreserved : 0x0A < op.toNat := by omega
    rw [commandOfOpcode_of_reserved hreserved, Option.getD_none]
  all_goals
    next hop => simp only [commandOfOpcode, hop, Option.getD_some]

/-- Settles O3: the decoder evaluates on each word. -/
theorem specWordsDecode : Obligations.SpecWordsDecode :=
  ⟨rfl, rfl, rfl, rfl, rfl, rfl, rfl, rfl, rfl, rfl, rfl, rfl, rfl⟩

end Sys2Proof

/-! # Proofs, 40_crc.md: the operand registers, CRC_BYTE, CRC_CHECK_RX -/

/-! ## Writes to the operand registers (40_crc.md R128; 41_frame_build.md R154, R156) -/

namespace Sys2Proof.Machine

open Sys2Proof.Safety

/-- The word of a write at a register that exists under every choice of the parameters, with any `DATA`. -/
theorem writeWord_of_writeOf {r : Reg} {f : Word → Instr} (hpresent : ∀ p, r.Present p)
    (hwrite : ∀ d, writeOf r d = some (f d)) : WriteWord (mkTrans true r.addr 0#32) f := by
  intro d p
  rw [mkTrans_or]
  exact decodeWord_of_writeOf (hpresent p) (hwrite d)

theorem toNat_dataHalf (d : Word) : (dataHalf d).toNat = d.toNat % 0x10000 := by
  rw [dataHalf, BitVec.extractLsb'_toNat, Nat.shiftRight_zero]

/-- Settles O26: the three words are writes of R61's map, and each operation stores the low half of `DATA`. -/
theorem operandRegisterWrites : Obligations.OperandRegisterWrites := by
  refine ⟨⟨?_, ?_, ?_⟩, fun s d => ⟨dataHalf d, toNat_dataHalf d, rfl, rfl, rfl⟩⟩
  · exact writeWord_of_writeOf (r := .crc) (fun _ => trivial) fun _ => rfl
  · exact writeWord_of_writeOf (r := .arg0) (fun _ => trivial) fun _ => rfl
  · exact writeWord_of_writeOf (r := .arg1) (fun _ => trivial) fun _ => rfl

end Sys2Proof.Machine

/-! ## The status update of a command, written out (44_control.md R232) -/

namespace Sys2Proof.Machine

/-- A success clears the cause bits and leaves the history. -/
theorem Block.setErr_ok (b : Block) (c : Cause) : b.setErr .ok c = { b with err := .ok, cause := Cause.clear } := by
  simp [Block.setErr]

/-- MALFORMED keeps its cause bits and sets sticky bit 0. -/
theorem Block.setErr_malformed (b : Block) (c : Cause) :
    b.setErr .malformed c = { b with err := .malformed, cause := c, sticky := b.sticky ||| 0b00001#5 } := rfl

end Sys2Proof.Machine

/-! ## CRC_BYTE (40_crc.md R125) -/

namespace Sys2Proof.Machine

/-- 40_crc.md R129: the CRC of a sequence goes on from the CRC of its first part. -/
theorem crc16_append (init : Half) (a b : List Byte) : crc16 init (a ++ b) = crc16 (crc16 init a) b :=
  List.foldl_append

theorem exec_crcByte (s : State) : exec .crcByte s = .next { s with block := crcByte s.block } := rfl

theorem crcByte_eq (b : Block) :
    crcByte b = { b with crc := crcStep b.crc b.crcOperand, err := .ok, cause := Cause.clear } :=
  Block.setErr_ok _ _

/-- Settles O32: one more byte is one more step of the fold that `crc16` is. -/
theorem crcByteAdvances : Obligations.CrcByteAdvances := by
  refine ⟨fun p => decodeOfEncode p .crcByte rfl,
    fun s => ⟨crcStep s.block.crc s.block.crcOperand, ?_, rfl, fun init m hcrc => ?_⟩⟩
  · rw [exec_crcByte, crcByte_eq]
  · rw [crc16_append, ← hcrc]
    rfl

end Sys2Proof.Machine

/-! ## CRC_CHECK_RX (40_crc.md R126) -/

namespace Sys2Proof.Machine

theorem bodyCrc_append_trailer (body : List Byte) (lo hi : Byte) :
    bodyCrc (body ++ [lo, hi]) = crc16 0xFFFF#16 body := by
  simp [bodyCrc, crcInitValue]

theorem trailerCrc_append_trailer (body : List Byte) (lo hi : Byte) :
    trailerCrc (body ++ [lo, hi]) = le16 lo hi := by
  simp [trailerCrc]

/-- On a buffer that ends in a trailer, check (b) of 42_frame_parse.md R181 compares the body's CRC with it. -/
theorem crcOk_append_trailer (body : List Byte) (lo hi : Byte) :
    crcOk (body ++ [lo, hi]) = decide (crc16 0xFFFF#16 body = le16 lo hi) := by
  rw [crcOk_of_two_le_length (by simp), bodyCrc_append_trailer, trailerCrc_append_trailer]

theorem exec_crcCheckRx (s : State) : exec .crcCheckRx s = .next { s with block := crcCheckRx s.block } := rfl

theorem crcCheckRx_of_length_lt_two {b : Block} (h : b.rx.length < 2) :
    crcCheckRx b = (b.setCrcMatch false).setErr .malformed { len := false, crc := true, bc := false, ovf := b.rxOvf } :=
  if_pos h

/-- CRC_CHECK_RX on a buffer that ends in a trailer: the generator takes the body's CRC, whatever the outcome. -/
theorem crcCheckRx_of_trailer {b : Block} {body : List Byte} {lo hi : Byte} (hrx : b.rx = body ++ [lo, hi]) :
    crcCheckRx b =
      ((b.setCrc (crc16 0xFFFF#16 body)).setCrcMatch (decide (crc16 0xFFFF#16 body = le16 lo hi))).setErr
        (if crc16 0xFFFF#16 body = le16 lo hi ∧ b.rxOvf = false then .ok else .malformed)
        ⟨false, decide (crc16 0xFFFF#16 body ≠ le16 lo hi), false, b.rxOvf⟩ := by
  have hlong : ¬ (body ++ [lo, hi]).length < 2 := by simp
  rw [crcCheckRx_eq, hrx, if_neg hlong, bodyCrc_append_trailer, crcOk_append_trailer]
  simp

/-- Settles O36, by the buffer's length, the comparison with the trailer and the overflow bit. -/
theorem crcCheckRxOutcome : Obligations.CrcCheckRxOutcome := by
  refine ⟨fun p => decodeOfEncode p .crcCheckRx rfl, fun s => ⟨fun hshort => ?_,
    fun body lo hi hrx => ⟨fun ⟨hcrc, hovf⟩ => ?_, fun hfail => ?_⟩⟩⟩
  · rw [exec_crcCheckRx, crcCheckRx_of_length_lt_two hshort, Block.setErr_malformed]
    rfl
  · rw [exec_crcCheckRx, crcCheckRx_of_trailer hrx, if_pos ⟨hcrc, hovf⟩, Block.setErr_ok, decide_eq_true hcrc]
    rfl
  · have hnot : ¬ (crc16 0xFFFF#16 body = le16 lo hi ∧ s.block.rxOvf = false) := by
      rwa [not_and_or, Bool.not_eq_false]
    rw [exec_crcCheckRx, crcCheckRx_of_trailer hrx, if_neg hnot, Block.setErr_malformed]
    rfl

end Sys2Proof.Machine

/-! # Proofs, 41_frame_build.md: BUILD_REQ, the request frame's words -/

/-! ## BUILD_REQ (41_frame_build.md R150, R151) -/

namespace Sys2Proof.Machine

theorem exec_buildReq (s : State) : exec .buildReq s = .next { s with block := buildReq s.cfg s.block } := rfl

/-- BAD_PARAM has no cause bits and sets sticky bit 2. -/
theorem Block.setErr_badParam (b : Block) :
    b.setErr .badParam = { b with err := .badParam, cause := Cause.clear, sticky := b.sticky ||| 0b00100#5 } := rfl

/-- A count BUILD_REQ rejects: the frame stays, and only TX_VALID and the status change. -/
theorem buildReq_of_bad_count {p : Config.Params} {b : Block} (h : b.count.toNat = 0 ∨ p.maxCount < b.count.toNat) :
    buildReq p b = (b.setTxValid false).setErr .badParam :=
  if_pos h

theorem buildReq_of_good_count {p : Config.Params} {b : Block}
    (h : 1 ≤ b.count.toNat ∧ b.count.toNat ≤ p.maxCount) :
    buildReq p b = ((b.setTx (requestFrame b.startOffset b.count)).setTxValid true).setErr .ok :=
  if_neg (by omega)

/-- Settles O37, by the count: `requestFrame` is R150's frame, byte for byte. -/
theorem buildReqOutcome : Obligations.BuildReqOutcome := by
  refine ⟨fun p => decodeOfEncode p .buildReq rfl, fun s => ⟨fun hbad => ?_, fun hgood =>
    ⟨requestFrame s.block.startOffset s.block.count, ?_, rfl, rfl, rfl, rfl, rfl, rfl, rfl, rfl⟩⟩⟩
  · rw [exec_buildReq, buildReq_of_bad_count hbad, Block.setErr_badParam]
    rfl
  · rw [exec_buildReq, buildReq_of_good_count hgood, Block.setErr_ok]
    rfl

end Sys2Proof.Machine

/-! ## TX_W0 and TX_W1 (41_frame_build.md R152) -/

namespace Sys2Proof.Machine

open Sys2Proof.Safety

/-- Byte `j` of four bytes put together, the first at the low end (10_state.md R37). -/
theorem extractLsb'_append_bytes (f : Fin 4 → Byte) (j : Fin 4) :
    (f 3 ++ f 2 ++ f 1 ++ f 0).extractLsb' (8 * j.val) 8 = f j := by
  match j with
  | 0 => exact BitVec.extractLsb'_append_eq_right
  | 1 =>
    rw [BitVec.extractLsb'_append_eq_of_le (by decide)]
    exact BitVec.extractLsb'_append_eq_right
  | 2 =>
    rw [BitVec.extractLsb'_append_eq_of_le (by decide), BitVec.extractLsb'_append_eq_of_le (by decide)]
    exact BitVec.extractLsb'_append_eq_right
  | 3 =>
    rw [BitVec.extractLsb'_append_eq_of_le (by decide), BitVec.extractLsb'_append_eq_of_le (by decide)]
    exact BitVec.extractLsb'_append_eq_left

theorem extractLsb'_txWord0 (tx : Vector Byte 8) {j : Nat} (h : j < 4) :
    (txWord0 tx).extractLsb' (8 * j) 8 = tx[j] :=
  extractLsb'_append_bytes (fun k => tx[k.val]) ⟨j, h⟩

theorem extractLsb'_txWord1 (tx : Vector Byte 8) {j : Nat} (h : j < 4) :
    (txWord1 tx).extractLsb' (8 * j) 8 = tx[4 + j] :=
  extractLsb'_append_bytes (fun k => tx[4 + k.val]) ⟨j, h⟩

/-- Settles O39: the words are reads of R61's map, and neither read looks at TX_VALID. -/
theorem txWordReads : Obligations.TxWordReads := by
  refine ⟨⟨?_, ?_⟩, fun s => ⟨txWord0 s.block.tx, txWord1 s.block.tx, rfl, rfl,
    fun j h => ⟨extractLsb'_txWord0 _ h, extractLsb'_txWord1 _ h⟩⟩⟩
  · exact readWord_of_regAt (a := 0x040#12) rfl (fun _ => rfl) rfl
  · exact readWord_of_regAt (a := 0x044#12) rfl (fun _ => rfl) rfl

end Sys2Proof.Machine

/-! # Proofs, 42_frame_parse.md: the push, DECODE's outcome, the round trip, the one-byte extension -/

/-! ## The push (42_frame_parse.md R172) -/

namespace Sys2Proof.Machine

theorem exec_wrRxData (s : State) (d : Word) :
    exec (.wrRxData d) s = .next { s with block := rxPush s.cfg (dataByte d) s.block } := rfl

theorem rxPush_of_full {p : Config.Params} {b : Block} (v : Byte) (h : p.rxCap ≤ b.rx.length) :
    rxPush p v b = (b.setRxOvf true).setSticky (b.sticky ||| stickyRxOverflow) :=
  if_neg (Nat.not_lt.2 h)

/-- Settles O40, by the room left in the buffer. -/
theorem rxPushOutcome : Obligations.RxPushOutcome := by
  refine ⟨?_, fun s d => ⟨fun hroom => ?_, fun hfull => ?_⟩⟩
  · exact writeWord_of_writeOf (r := .rxData) (fun _ => trivial) fun _ => rfl
  · rw [exec_wrRxData, rxPush_of_room _ hroom]
    rfl
  · rw [exec_wrRxData, rxPush_of_full _ hfull]
    rfl

end Sys2Proof.Machine

/-! ## DECODE's checks and registers, said of the buffer's bytes (42_frame_parse.md R181, R182) -/

namespace Sys2Proof.Machine

/-- Check (b) needs a trailer and compares the CRC of what stands before it. -/
theorem crcOk_iff (rx : List Byte) :
    crcOk rx = true ↔ ∃ body lo hi, rx = body ++ [lo, hi] ∧ crc16 0xFFFF#16 body = le16 lo hi := by
  constructor
  · intro h
    have hlong : 2 ≤ rx.length := by
      by_contra hshort
      rw [crcOk_eq_false_of_length_lt_two (Nat.not_le.1 hshort)] at h
      nomatch h
    have htrailer : (rx.drop (rx.length - 2)).length = 2 := by
      rw [List.length_drop]
      omega
    obtain ⟨lo, hi, hlohi⟩ := List.length_eq_two.1 htrailer
    have hrx : rx = rx.take (rx.length - 2) ++ [lo, hi] := by rw [← hlohi, List.take_append_drop]
    rw [hrx, crcOk_append_trailer, decide_eq_true_eq] at h
    exact ⟨_, lo, hi, hrx, h⟩
  · rintro ⟨body, lo, hi, rfl, hcrc⟩
    rw [crcOk_append_trailer, decide_eq_true hcrc]

theorem bcOk_iff (rx : List Byte) (n : Nat) : bcOk rx n = true ↔ ∃ c, rx[2]? = some c ∧ c.toNat = 2 * n := by
  by_cases h : 2 < rx.length
  · simp [bcOk, h, Nat.succ_le_of_lt h]
  · have hshort : ¬ 3 ≤ rx.length := h
    simp [bcOk, hshort, List.getElem?_eq_none (Nat.not_lt.1 h)]

theorem getElem?_unpackRegisters (rx : List Byte) {n j : Nat} (h : j < n) :
    (unpackRegisters rx n)[j]? = some (be16 (rx.getD (3 + 2 * j) 0#8) (rx.getD (4 + 2 * j) 0#8)) := by
  simp [unpackRegisters, h]

/-- In a buffer long enough the registers are made of bytes that stand in it. -/
theorem exists_bytes_of_unpackRegisters {rx : List Byte} {n j : Nat} (hlen : 2 * n + 5 ≤ rx.length) (h : j < n) :
    ∃ hi lo v, rx[3 + 2 * j]? = some hi ∧ rx[4 + 2 * j]? = some lo ∧ (unpackRegisters rx n)[j]? = some v ∧
      v.toNat = hi.toNat * 256 + lo.toNat := by
  have hhi : 3 + 2 * j < rx.length := by omega
  have hlo : 4 + 2 * j < rx.length := by omega
  refine ⟨_, _, _, List.getElem?_eq_getElem hhi, List.getElem?_eq_getElem hlo, getElem?_unpackRegisters rx h, ?_⟩
  rw [toNat_be16, List.getD_eq_getElem _ _ hhi, List.getD_eq_getElem _ _ hlo]

end Sys2Proof.Machine

/-! ## The outcome of DECODE (42_frame_parse.md R180) -/

namespace Sys2Proof.Machine

/-- A cause bit is the negation of its check (42_frame_parse.md R181). -/
theorem not_check_eq_true_iff {check : Bool} {P : Prop} (h : check = true ↔ P) : (!check) = true ↔ ¬ P := by
  rw [← h, Bool.not_eq_true, Bool.not_eq_true']

/-- Settles O41: each condition of the statement is one of DECODE's checks. -/
theorem decodeOutcome : Obligations.DecodeOutcome := by
  refine ⟨fun p => decodeOfEncode p .decode rfl, fun s => ?_⟩
  intro n rx lengthHolds crcHolds byteCountHolds nothingLost
  have hlen : lenOk rx n = true ↔ lengthHolds := decide_eq_true_iff
  have hcrc : crcOk rx = true ↔ crcHolds := crcOk_iff rx
  have hbc : bcOk rx n = true ↔ byteCountHolds := bcOk_iff rx n
  have hacc : s.block.accepts = true ↔ lengthHolds ∧ crcHolds ∧ byteCountHolds ∧ nothingLost := by
    rw [← hlen, ← hcrc, ← hbc]
    exact s.block.accepts_iff
  refine ⟨fun hall => ?_, fun hfail => ?_⟩
  · have hdecode := decodeResponse_of_accepts (hacc.2 hall)
    obtain ⟨hlengthHolds, hcrcHolds, -⟩ := hall
    have hmatch : crcOk s.block.rx = true := hcrc.2 hcrcHolds
    have hbuffer : 2 * n + 5 ≤ rx.length := (lenOk_iff rx n).1 (hlen.2 hlengthHolds)
    refine ⟨unpackRegisters rx n, ?_, length_unpackRegisters rx n, fun j => exists_bytes_of_unpackRegisters hbuffer⟩
    rw [exec_decode, hdecode, Block.setErr_ok, Block.beginDecode, hmatch]
    rfl
  · refine ⟨crcOk rx, ⟨!lenOk rx n, !crcOk rx, !bcOk rx n, s.block.rxOvf⟩, ?_, hcrc, not_check_eq_true_iff hlen,
      not_check_eq_true_iff hcrc, not_check_eq_true_iff hbc, Iff.of_eq (Bool.not_eq_false _).symm⟩
    rw [exec_decode, decodeResponse_of_not_accepts (Bool.eq_false_iff.2 (mt hacc.1 hfail)), Block.setErr_malformed]
    rfl

end Sys2Proof.Machine

/-! ## The round trip (42_frame_parse.md section 4) -/

namespace Sys2Proof.Machine

/-- The values of a response in transmission order, each big-endian. -/
def registerBytes (vs : List Half) : List Byte := vs.flatMap fun v => [hiByte v, loByte v]

theorem length_registerBytes (vs : List Half) : (registerBytes vs).length = 2 * vs.length := by
  simp [registerBytes, Nat.mul_comm]

theorem getElem?_registerBytes (vs : List Half) (j : Nat) :
    (registerBytes vs)[2 * j]? = vs[j]?.map hiByte ∧ (registerBytes vs)[2 * j + 1]? = vs[j]?.map loByte := by
  induction vs generalizing j with
  | nil => exact ⟨rfl, rfl⟩
  | cons v vs ih =>
    cases j with
    | zero => exact ⟨rfl, rfl⟩
    | succ j => exact ih j

/-- Where the bytes of value `j` stand in a buffer that carries `vs` after three bytes, whatever follows. -/
theorem getElem?_frame (h0 h1 c : Byte) (vs : List Half) (rest : List Byte) {j : Nat} (h : j < vs.length) :
    ([h0, h1, c] ++ registerBytes vs ++ rest)[3 + 2 * j]? = some (hiByte vs[j]) ∧
      ([h0, h1, c] ++ registerBytes vs ++ rest)[4 + 2 * j]? = some (loByte vs[j]) := by
  obtain ⟨hhi, hlo⟩ := getElem?_registerBytes vs j
  rw [List.getElem?_eq_getElem h] at hhi hlo
  have hlen : ([h0, h1, c] ++ registerBytes vs).length = 3 + 2 * vs.length := by
    rw [List.length_append, length_registerBytes]
    rfl
  constructor
  · rw [List.getElem?_append_left (by omega), Nat.add_comm]
    exact hhi
  · rw [List.getElem?_append_left (by omega), Nat.add_comm]
    exact hlo

theorem unpackRegisters_frame (h0 h1 c : Byte) (vs : List Half) (rest : List Byte) :
    unpackRegisters ([h0, h1, c] ++ registerBytes vs ++ rest) vs.length = vs := by
  apply List.ext_getElem (length_unpackRegisters _ _)
  intro j _ hj
  obtain ⟨hhi, hlo⟩ := getElem?_frame h0 h1 c vs rest hj
  rw [← Option.some_inj, ← List.getElem?_eq_getElem, getElem?_unpackRegisters _ hj, List.getD_eq_getElem?_getD,
    List.getD_eq_getElem?_getD, hhi, hlo, Option.getD_some, Option.getD_some, be16_hiByte_loByte]

/-- A response without its CRC: any first two bytes, the byte-count, the values. -/
def responseBody (h0 h1 : Byte) (vs : List Half) : List Byte :=
  [h0, h1, BitVec.ofNat 8 (2 * vs.length)] ++ registerBytes vs

theorem length_responseBody (h0 h1 : Byte) (vs : List Half) : (responseBody h0 h1 vs).length = 2 * vs.length + 3 := by
  rw [responseBody, List.length_append, length_registerBytes, Nat.add_comm]
  rfl

theorem crcOk_append_crc (body : List Byte) :
    crcOk (body ++ [loByte (crc16 0xFFFF#16 body), hiByte (crc16 0xFFFF#16 body)]) = true :=
  (crcOk_iff _).2 ⟨body, _, _, rfl, (be16_hiByte_loByte _).symm⟩

/-- A response that ends in its CRC passes the four checks (42_frame_parse.md R181). -/
theorem Block.accepts_of_response {b : Block} {h0 h1 : Byte} {vs : List Half} (hcount : vs.length ≤ 127)
    (hrx : b.rx = responseBody h0 h1 vs ++
      [loByte (crc16 0xFFFF#16 (responseBody h0 h1 vs)), hiByte (crc16 0xFFFF#16 (responseBody h0 h1 vs))])
    (hovf : b.rxOvf = false) (hexpected : b.expectedCount = vs.length) : b.accepts = true := by
  rw [Block.accepts_iff, hexpected, hrx]
  refine ⟨?_, crcOk_append_crc _, ?_, hovf⟩
  · rw [lenOk_iff, List.length_append, length_responseBody]
    exact Nat.le_refl _
  · refine (bcOk_iff _ _).2 ⟨BitVec.ofNat 8 (2 * vs.length), rfl, ?_⟩
    rw [BitVec.toNat_ofNat]
    omega

theorem exec_field (s : State) : exec .field s = .next { s with block := fieldAt s.block } := rfl

/-- FIELD with the index of a map entry in ARG0 (43_register_extract.md R201). -/
theorem fieldAt_setArg0 {b : Block} {j : Nat} {v : Half} (hj : j < 2 ^ 16) (h : b.map[j]? = some v) :
    fieldAt (b.setArg0 (BitVec.ofNat 16 j)) = ((b.setArg0 (BitVec.ofNat 16 j)).setResult v).setErr .ok := by
  have hindex : (b.setArg0 (BitVec.ofNat 16 j)).relativeIndex = j := by
    rw [Block.relativeIndex, Block.setArg0_arg0, BitVec.toNat_ofNat, Nat.mod_eq_of_lt hj]
  rw [fieldAt_eq, hindex, Block.setArg0_map, h, Option.getD_some, Option.isSome_some, if_pos rfl]

theorem decodeResponse_map_of_accepts {b : Block} (h : b.accepts = true) :
    (decodeResponse b).map = unpackRegisters b.rx b.expectedCount := by
  rw [decodeResponse_of_accepts h]
  rfl

/-- Settles O42: the frame passes the checks, and its registers are the values it was made of. -/
theorem decodeRoundTrip : Obligations.DecodeRoundTrip := by
  intro s h0 h1 vs _ hcount body hrx hovf hexpected
  have hacc : s.block.accepts = true := Block.accepts_of_response hcount hrx hovf hexpected
  have hregs : unpackRegisters s.block.rx s.block.expectedCount = vs := by
    rw [hrx, Block.expectedCount, hexpected]
    exact unpackRegisters_frame _ _ _ _ _
  have hmap : (decodeResponse s.block).map = vs := (decodeResponse_map_of_accepts hacc).trans hregs
  refine ⟨_, exec_decode s, hmap, ?_, (decodeResponse_err_eq_ok_iff _).2 hacc, fun j v hv => ⟨_, exec_field _, ?_⟩⟩
  · exact congrArg Block.mapValid (decodeResponse_of_accepts hacc)
  · have hj : j < vs.length := (List.getElem?_eq_some_iff.1 hv).1
    have hfield := fieldAt_setArg0 (b := decodeResponse s.block) (j := j) (v := v) (by omega) (by rw [hmap, hv])
    exact ⟨congrArg Block.result hfield, congrArg Block.err hfield⟩

end Sys2Proof.Machine

/-! ## The one-byte extension (42_frame_parse.md section 3) -/

namespace Sys2Proof.Machine

/-- While the low bits are 0 the CRC loop only shifts (40_crc.md R122). -/
theorem crcBits_of_low_zero (k : Nat) (c : Half) (h : ∀ j < k, c.getLsbD j = false) : crcBits k c = c >>> k := by
  induction k generalizing c with
  | zero => exact (BitVec.ushiftRight_zero c).symm
  | succ k ih =>
    have hbit : crcBit c = c >>> 1 := if_neg (Bool.eq_false_iff.1 (h 0 k.succ_pos))
    rw [crcBits, hbit, ih, ← BitVec.shiftRight_add, Nat.add_comm]
    intro j hj
    rw [BitVec.getLsbD_ushiftRight]
    exact h _ (by omega)

theorem getLsbD_le16 (lo hi : Byte) (j : Nat) :
    (le16 lo hi).getLsbD j = if j < 8 then lo.getLsbD j else hi.getLsbD (j - 8) := by
  rw [le16, ← BitVec.getLsbD_append]

/-- A CRC continued over its own low byte is its high byte: that byte cancels, and eight shifts bring the high byte
down. -/
theorem crcStep_le16 (lo hi : Byte) : crcStep (le16 lo hi) lo = le16 hi 0x00#8 := by
  have hcancel : le16 lo hi ^^^ lo.zeroExtend 16 = le16 0x00#8 hi := by
    apply BitVec.eq_of_getLsbD_eq
    intro j hj
    rw [BitVec.getLsbD_xor, getLsbD_le16, getLsbD_le16, BitVec.getLsbD_setWidth]
    by_cases hlow : j < 8
    · simp [hlow, hj]
    · simp [hlow, BitVec.getLsbD_of_ge lo j (Nat.not_lt.1 hlow)]
  have hlow : ∀ j < 8, (le16 0x00#8 hi).getLsbD j = false := by
    intro j hj
    rw [getLsbD_le16, if_pos hj, BitVec.getLsbD_zero]
  rw [crcStep, hcancel, crcBits_of_low_zero 8 _ hlow]
  apply BitVec.eq_of_toNat_eq
  rw [BitVec.toNat_ushiftRight, Nat.shiftRight_eq_div_pow, le16_eq_be16, le16_eq_be16, toNat_be16, toNat_be16]
  simp

theorem crcOk_append_zero {rx : List Byte} (h : crcOk rx = true) : crcOk (rx ++ [0x00#8]) = true := by
  obtain ⟨body, lo, hi, rfl, hcrc⟩ := (crcOk_iff rx).1 h
  refine (crcOk_iff _).2 ⟨body ++ [lo], hi, 0x00#8, by simp, ?_⟩
  rw [crc16_append, hcrc]
  exact crcStep_le16 lo hi

theorem lenOk_append {rx : List Byte} {n : Nat} (rest : List Byte) (h : lenOk rx n = true) :
    lenOk (rx ++ rest) n = true := by
  rw [lenOk_iff] at h ⊢
  rw [List.length_append]
  omega

theorem bcOk_append {rx : List Byte} {n : Nat} (rest : List Byte) (h : bcOk rx n = true) :
    bcOk (rx ++ rest) n = true := by
  obtain ⟨c, hc, hcount⟩ := (bcOk_iff rx n).1 h
  have hthird : 2 < rx.length := (List.getElem?_eq_some_iff.1 hc).1
  exact (bcOk_iff _ _).2 ⟨c, by rw [List.getElem?_append_left hthird, hc], hcount⟩

/-- The registers of an accepted buffer lie before anything appended to it. -/
theorem unpackRegisters_append {rx : List Byte} {n : Nat} (rest : List Byte) (h : 2 * n + 5 ≤ rx.length) :
    unpackRegisters (rx ++ rest) n = unpackRegisters rx n := by
  refine List.map_congr_left fun i hi => ?_
  have hin := List.mem_range.1 hi
  rw [List.getD_append _ _ _ _ (by omega), List.getD_append _ _ _ _ (by omega)]

theorem Block.accepts_append_zero {b : Block} (h : b.accepts = true) : (b.setRx (b.rx ++ [0x00#8])).accepts = true := by
  obtain ⟨hlen, hcrc, hbc, hovf⟩ := b.accepts_iff.1 h
  exact (Block.accepts_iff _).2 ⟨lenOk_append _ hlen, crcOk_append_zero hcrc, bcOk_append _ hbc, hovf⟩

theorem decodeResponse_append_zero_map {b : Block} (h : b.accepts = true) :
    (decodeResponse (b.setRx (b.rx ++ [0x00#8]))).map = (decodeResponse b).map := by
  obtain ⟨-, hbuffer⟩ := Block.count_bounds_of_accepts h
  rw [decodeResponse_map_of_accepts (Block.accepts_append_zero h), decodeResponse_map_of_accepts h]
  exact unpackRegisters_append _ hbuffer

/-- Settles O45: each check passes on the longer buffer, and the registers stay where they are. -/
theorem decodeAcceptsExtraZeroByte : Obligations.DecodeAcceptsExtraZeroByte := by
  intro s t hexec hok
  obtain ⟨⟩ := (exec_decode s).symm.trans hexec
  have hacc : s.block.accepts = true := (decodeResponse_err_eq_ok_iff _).1 hok
  exact ⟨_, exec_decode _, (decodeResponse_err_eq_ok_iff _).2 (Block.accepts_append_zero hacc),
    decodeResponse_append_zero_map hacc⟩

end Sys2Proof.Machine

/-! # Proofs, 43_register_extract.md: FIELD, the layout table and its words, LAYOUT_CHECK, EXTRACT -/

/-! ## INDEX_OUT_OF_RANGE, written out (44_control.md R232) -/

namespace Sys2Proof.Machine

/-- INDEX_OUT_OF_RANGE has no cause bits and sets sticky bit 1. -/
theorem Block.setErr_indexOutOfRange (b : Block) :
    b.setErr .indexOutOfRange =
      { b with err := .indexOutOfRange, cause := Cause.clear, sticky := b.sticky ||| 0b00010#5 } := rfl

end Sys2Proof.Machine

/-! ## The active slots (43_register_extract.md R204) -/

namespace Sys2Proof.Machine

theorem activeSlot_iff (p : Config.Params) (b : Block) (k : Fin 32) :
    activeSlot p b k = true ↔
      k.val < p.layoutSlots ∧ b.layout[k].valid = true ∧ b.layout[k].reserved = false := by
  rw [activeSlot, Slot.active, Bool.and_eq_true, Bool.and_eq_true, Bool.not_eq_true', decide_eq_true_eq, and_comm]

theorem slotOutOfRange_iff (p : Config.Params) (b : Block) (c : Nat) :
    slotOutOfRange p b c = true ↔
      ∃ k : Fin 32, (k.val < p.layoutSlots ∧ b.layout[k].valid = true ∧ b.layout[k].reserved = false) ∧
        c ≤ b.layout[k].index.toNat := by
  simp only [slotOutOfRange, decide_eq_true_eq, activeSlot_iff]

/-- The layout alone tells which slots are active. -/
theorem activeSlot_congr (p : Config.Params) {b b' : Block} (h : b.layout = b'.layout) :
    activeSlot p b = activeSlot p b' := by
  funext k
  rw [activeSlot, activeSlot, h]

theorem slotOutOfRange_congr (p : Config.Params) {b b' : Block} (h : b.layout = b'.layout) (c : Nat) :
    slotOutOfRange p b c = slotOutOfRange p b' c := by
  rw [slotOutOfRange, slotOutOfRange, activeSlot_congr p h, h]

end Sys2Proof.Machine

/-! ## EXTRACT (43_register_extract.md R209) -/

namespace Sys2Proof.Machine

open Sys2Proof.Safety

theorem exec_extract (s : State) : exec .extract s = .next { s with block := extractReadings s.cfg s.block } := rfl

/-- EXTRACT fails without a map, and when an active slot names an index outside it. -/
theorem Block.extractable_eq_false_iff (p : Config.Params) (b : Block) :
    b.extractable p = false ↔ b.mapValid = false ∨
      ∃ k : Fin 32, (k.val < p.layoutSlots ∧ b.layout[k].valid = true ∧ b.layout[k].reserved = false) ∧
        b.map.length ≤ b.layout[k].index.toNat := by
  rw [Block.extractable, Bool.and_eq_false_iff, Bool.not_eq_false', slotOutOfRange_iff]

theorem setReadings_setErr_ok (b : Block) (r : Vector (Option Half) 32) (v : Bool) :
    (b.setReadings r v).setErr .ok = { b with reading := r, rdValid := v, err := .ok, cause := Cause.clear } :=
  Block.setErr_ok _ _

theorem extractReadings_of_extractable {p : Config.Params} {b : Block} (h : b.extractable p = true) :
    extractReadings p b =
      { b with reading := readingsOf p b, rdValid := true, err := .ok, cause := Cause.clear } := by
  rw [extractReadings_eq, h, if_pos rfl, if_pos rfl, setReadings_setErr_ok]

theorem extractReadings_of_not_extractable {p : Config.Params} {b : Block} (h : b.extractable p = false) :
    extractReadings p b = (b.setReadings noReadings false).setErr .indexOutOfRange := by
  rw [extractReadings_eq, h]
  rfl

/-- In an extractable block the map has an entry for every active slot. -/
theorem Block.index_lt_of_extractable {p : Config.Params} {b : Block} (h : b.extractable p = true) {k : Fin 32}
    (hk : activeSlot p b k = true) : b.layout[k].index.toNat < b.map.length := by
  by_contra hout
  have hfail : b.extractable p = false :=
    (b.extractable_eq_false_iff p).2 (.inr ⟨k, (activeSlot_iff p b k).1 hk, Nat.not_lt.1 hout⟩)
  nomatch h.symm.trans hfail

/-- Settles O53, by EXTRACT's condition; the readings are then taken slot by slot. -/
theorem extractOutcome : Obligations.ExtractOutcome := by
  refine ⟨fun p => decodeOfEncode p .extract rfl, fun s => ?_⟩
  intro active bad
  have hbad : s.block.extractable s.cfg = false ↔ bad := s.block.extractable_eq_false_iff s.cfg
  have hactive (k : Fin 32) : activeSlot s.cfg s.block k = true ↔ active k := activeSlot_iff s.cfg s.block k
  refine ⟨fun hgood => ?_, fun hfail => ?_⟩
  · have hok : s.block.extractable s.cfg = true := eq_true_of_ne_false (mt hbad.1 hgood)
    refine ⟨readingsOf s.cfg s.block, ?_, fun k => ⟨fun hk => ?_, fun hk => ?_⟩⟩
    · rw [exec_extract, extractReadings_of_extractable hok]
    · have hin := Block.index_lt_of_extractable hok ((hactive k).2 hk)
      rw [readingsOf_getElem, if_pos ((hactive k).2 hk)]
      exact ⟨_, List.getElem?_eq_getElem hin, List.getElem?_eq_getElem hin⟩
    · rw [readingsOf_getElem, if_neg (mt (hactive k).1 hk)]
  · rw [exec_extract, extractReadings_of_not_extractable (hbad.2 hfail), Block.setErr_indexOutOfRange]
    rfl

/-- A reading after EXTRACT is an active slot's, and the map's value at that slot's index. -/
theorem active_of_extractReadings {p : Config.Params} {b : Block} {k : Fin 32} {v : Half}
    (h : (extractReadings p b).reading[k] = some v) :
    activeSlot p b k = true ∧ b.map[b.layout[k].index.toNat]? = some v := by
  cases hok : b.extractable p
  · rw [extractReadings_of_not_extractable hok] at h
    nomatch (noReadings_getElem k).symm.trans h
  · rw [extractReadings_of_extractable hok] at h
    have hreading : (readingsOf p b)[k] = some v := h
    rwa [readingsOf_getElem, Option.ite_none_right_eq_some] at hreading

/-- Settles O54: a reading belongs to an active slot, and none of those names the index. -/
theorem reservedIndexNeverExposed : Obligations.ReservedIndexNeverExposed := by
  intro s j hunused
  refine ⟨_, exec_extract s, fun k v hv => ?_⟩
  obtain ⟨hactive, hvalue⟩ := active_of_extractReadings hv
  obtain ⟨-, hvalid, hreserved⟩ := (activeSlot_iff _ _ _).1 hactive
  refine ⟨fun hj => ?_, hvalue⟩
  rcases hunused k hj with hinvalid | hmarked
  · nomatch hvalid.symm.trans hinvalid
  · nomatch hreserved.symm.trans hmarked

theorem readingsOf_congr (p : Config.Params) {b b' : Block} (hmap : b.map = b'.map) (hlayout : b.layout = b'.layout) :
    readingsOf p b = readingsOf p b' := by
  rw [readingsOf, readingsOf, activeSlot_congr p hlayout, hmap, hlayout]

theorem Block.extractable_congr (p : Config.Params) {b b' : Block} (hmap : b.map = b'.map)
    (hvalid : b.mapValid = b'.mapValid) (hlayout : b.layout = b'.layout) : b.extractable p = b'.extractable p := by
  rw [Block.extractable, Block.extractable, hmap, hvalid, slotOutOfRange_congr p hlayout]

/-- Settles O55: EXTRACT's condition and its readings are told by the map and the layout. -/
theorem extractIgnoresHistory : Obligations.ExtractIgnoresHistory := by
  intro s s' hcfg hmap hvalid hlayout
  have hok := Block.extractable_congr s'.cfg hmap hvalid hlayout
  have hreadings := readingsOf_congr s'.cfg hmap hlayout
  refine ⟨_, _, exec_extract s, exec_extract s', ?_⟩
  simp only [extractReadings_eq, hcfg, hok, hreadings, Block.setErr_reading, Block.setErr_rdValid, Block.setErr_err,
    Block.setReadings_reading, Block.setReadings_rdValid, and_self]

end Sys2Proof.Machine

/-! ## FIELD (43_register_extract.md R201) -/

namespace Sys2Proof.Machine

theorem fieldAt_of_some {b : Block} {v : Half} (h : b.map[b.relativeIndex]? = some v) :
    fieldAt b = (b.setResult v).setErr .ok := by
  rw [fieldAt_eq, h]
  rfl

theorem fieldAt_of_length_le {b : Block} (h : b.map.length ≤ b.relativeIndex) :
    fieldAt b = b.setErr .indexOutOfRange := by
  rw [fieldAt_eq, List.getElem?_eq_none h]
  rfl

/-- Settles O47, by the index: inside the map or not. -/
theorem fieldOutcome : Obligations.FieldOutcome := by
  refine ⟨fun p => decodeOfEncode p .field rfl, fun s => ⟨fun v hv => ?_, fun hout => ?_⟩⟩
  · rw [exec_field, fieldAt_of_some hv, Block.setErr_ok]
    rfl
  · rw [exec_field, fieldAt_of_length_le hout, Block.setErr_indexOutOfRange]

end Sys2Proof.Machine

/-! ## LAYOUT_CHECK (43_register_extract.md R208) -/

namespace Sys2Proof.Machine

theorem exec_layoutCheck (s : State) : exec .layoutCheck s = .next { s with block := layoutCheck s.cfg s.block } := rfl

/-- Settles O52, by whether some active slot lies outside the window. -/
theorem layoutCheckOutcome : Obligations.LayoutCheckOutcome := by
  refine ⟨fun p => decodeOfEncode p .layoutCheck rfl, fun s => ?_⟩
  intro bad
  have hbad : slotOutOfRange s.cfg s.block s.block.windowCount = true ↔ bad := by
    simp only [slotOutOfRange_iff, and_assoc]
    rfl
  refine ⟨fun hgood => ?_, fun hfail => ?_⟩
  · rw [exec_layoutCheck, layoutCheck_eq, if_neg (mt hbad.1 hgood), Block.setErr_ok]
  · rw [exec_layoutCheck, layoutCheck_eq, if_pos (hbad.2 hfail), Block.setErr_indexOutOfRange]

end Sys2Proof.Machine

/-! ## The words of the slot windows (20_memory.md R62) -/

namespace Sys2Proof.Safety

open Sys2Proof.Machine

/-- The slot number in `ADDR[6:2]` of slot 0's word gives the slot's word. -/
theorem mkTrans_or_layoutSlot (w : Bool) (k : Fin 32) :
    mkTrans w (layoutAddr 0) 0#32 ||| BitVec.ofNat 47 k.val <<< 34 = mkTrans w (layoutAddr k) 0#32 := by
  revert w k
  decide

theorem mkTrans_or_readingSlot (w : Bool) (k : Fin 32) :
    mkTrans w (readingAddr 0) 0#32 ||| BitVec.ofNat 47 k.val <<< 34 = mkTrans w (readingAddr k) 0#32 := by
  revert w k
  decide

theorem slotWord_rdLayout : SlotWord (mkTrans false (layoutAddr 0) 0#32) fun k _ => .rdLayout k := by
  intro p k d hk
  rw [mkTrans_or_layoutSlot, mkTrans_or]
  exact decodeWord_of_readOf (r := .layout k) hk rfl d

theorem slotWord_wrLayout : SlotWord (mkTrans true (layoutAddr 0) 0#32) .wrLayout := by
  intro p k d hk
  rw [mkTrans_or_layoutSlot, mkTrans_or]
  exact decodeWord_of_writeOf (r := .layout k) hk rfl

theorem slotWord_rdReading : SlotWord (mkTrans false (readingAddr 0) 0#32) fun k _ => .rdReading k := by
  intro p k d hk
  rw [mkTrans_or_readingSlot, mkTrans_or]
  exact decodeWord_of_readOf (r := .reading k) hk rfl d

end Sys2Proof.Safety

/-! ## The LAYOUT words (43_register_extract.md R206, R207; 10_state.md R35) -/

namespace Sys2Proof.Machine

open Sys2Proof.Safety

/-- The fields of a LAYOUT word are the slot's. -/
theorem dataSlot_slotWord (l : Slot) : dataSlot (slotWord l) = l := by
  have hvalid : (slotWord l).getLsbD 31 = l.valid := by
    simp only [slotWord, BitVec.getLsbD_append, BitVec.getLsbD_ofBool]
    rfl
  have hreserved : (slotWord l).getLsbD 30 = l.reserved := by
    simp only [slotWord, BitVec.getLsbD_append, BitVec.getLsbD_ofBool]
    rfl
  have hname : (slotWord l).extractLsb' 16 8 = l.nameId := by
    rw [slotWord, BitVec.extractLsb'_append_eq_of_le (by decide)]
    exact BitVec.extractLsb'_append_eq_right
  have hindex : (slotWord l).extractLsb' 0 16 = l.index := BitVec.extractLsb'_append_eq_right
  rw [dataSlot, hvalid, hreserved, hname, hindex]

theorem slotWord_reservedBits (l : Slot) : (slotWord l).extractLsb' 24 6 = 0#6 := by
  rw [slotWord, BitVec.extractLsb'_append_eq_of_le (by decide), BitVec.extractLsb'_append_eq_of_le (by decide)]
  exact BitVec.extractLsb'_append_eq_right

/-- Settles O48: `dataSlot` names the fields of a LAYOUT word and undoes `slotWord`. -/
theorem layoutReadFields : Obligations.LayoutReadFields := by
  refine ⟨slotWord_rdLayout, fun s k => ⟨fun hk => ?_, fun hk => if_neg (Nat.not_lt.2 hk)⟩⟩
  have hslot := dataSlot_slotWord s.block.layout[k]
  exact ⟨slotWord s.block.layout[k], if_pos hk, congrArg Slot.valid hslot, congrArg Slot.reserved hslot,
    slotWord_reservedBits _, congrArg Slot.nameId hslot, congrArg Slot.index hslot⟩

theorem setSlot_layout_self (b : Block) (k : Fin 32) (l : Slot) : (b.setSlot k l).layout[k] = l :=
  Vector.getElem_set_self k.isLt

/-- Settles O49: the write sets one slot to the fields of `DATA`. -/
theorem layoutWrite : Obligations.LayoutWrite := by
  refine ⟨slotWord_wrLayout, fun s k d => ⟨fun hk => ?_, fun hk => if_neg (Nat.not_lt.2 hk)⟩⟩
  have hslot := setSlot_layout_self s.block k (dataSlot d)
  exact ⟨(s.block.setSlot k (dataSlot d)).layout, if_pos hk, congrArg Slot.valid hslot, congrArg Slot.reserved hslot,
    congrArg Slot.nameId hslot, congrArg Slot.index hslot, fun j => setSlot_layout_of_ne s.block (dataSlot d)⟩

end Sys2Proof.Machine

/-! ## The READING words (43_register_extract.md R210, 10_state.md R36) -/

namespace Sys2Proof.Machine

open Sys2Proof.Safety

theorem readingWord_fields (nameId : BitVec 8) (v : Half) :
    (readingWord nameId (some v)).getLsbD 31 = true ∧ (readingWord nameId (some v)).extractLsb' 24 7 = 0#7 ∧
      (readingWord nameId (some v)).extractLsb' 16 8 = nameId ∧
      (readingWord nameId (some v)).extractLsb' 0 16 = v := by
  rw [readingWord]
  refine ⟨by simp only [BitVec.getLsbD_append]; rfl, ?_, ?_, BitVec.extractLsb'_append_eq_right⟩
  · rw [BitVec.extractLsb'_append_eq_of_le (by decide), BitVec.extractLsb'_append_eq_of_le (by decide)]
    exact BitVec.extractLsb'_append_eq_right
  · rw [BitVec.extractLsb'_append_eq_of_le (by decide)]
    exact BitVec.extractLsb'_append_eq_right

/-- Settles O51, by whether the slot has a reading. -/
theorem readingRead : Obligations.ReadingRead := by
  refine ⟨slotWord_rdReading, fun s k => ⟨fun hk => ?_, fun hk => if_neg (Nat.not_lt.2 hk)⟩⟩
  refine ⟨readingWord s.block.layout[k].nameId s.block.reading[k], if_pos hk, fun hnone => ?_, fun v hv => ?_⟩
  · rw [hnone, readingWord]
  · rw [hv]
    exact readingWord_fields _ v

end Sys2Proof.Machine

/-! # Proofs, 44_control.md: the status update, the plain and the illegal commands, STATUS, the parameters -/

/-! ## The status update of every command (44_control.md R232) -/

namespace Sys2Proof.Machine

/-- A command completes in every state: none has an operand that could be out of range. -/
theorem exec_of_command {i : Instr} (hcls : i.cls = .command) (s : State) :
    exec i s = .next { s with block := effect s.cfg i s.block } := by
  cases i
  case nop | crcInit | crcByte | crcCheckRx | buildReq | rxClear | decode | field | layoutCheck | extract | clrSticky |
      illegalCmd => rfl
  all_goals nomatch hcls

theorem Block.setErr_cause_only_malformed (b : Block) (e : ErrCode) (c : Cause) :
    (b.setErr e c).err = .malformed ∨ (b.setErr e c).cause = Cause.clear := by
  by_cases he : e = .malformed
  · exact .inl he
  · exact .inr (if_neg he)

theorem ErrCode.code_pos {e : ErrCode} (h : e ≠ .ok) : 0 < e.code.toNat := by
  cases e
  case ok => exact absurd rfl h
  all_goals decide

theorem ErrCode.code_le_four (e : ErrCode) : e.code.toNat ≤ 4 := by
  cases e <;> decide

/-- The error a command leaves is in the history it leaves. -/
theorem error_in_history_after_command {p : Config.Params} {i : Instr} (hcls : i.cls = .command) (b : Block)
    (herr : (effect p i b).err ≠ .ok) :
    (effect p i b).sticky.getLsbD ((effect p i b).err.code.toNat - 1) = true := by
  have hpos := ErrCode.code_pos herr
  have hle := (effect p i b).err.code_le_four
  exact (sticky_after_command hcls b (by omega)).2 (.inr (by omega))

/-- Only a command updates the status: a push writes the history, and ERR and the cause bits stay. -/
theorem effect_status_of_not_command (p : Config.Params) {i : Instr} (hcls : i.cls ≠ .command) (b : Block) :
    (effect p i b).err = b.err ∧ (effect p i b).cause = b.cause := by
  cases i
  case wrRxData d => simp [effect, rxPush_eq]
  case wrCrc | wrArg0 | wrArg1 | wrLayout => exact ⟨rfl, rfl⟩
  case rdStatus | rdCrc | rdArg0 | rdArg1 | rdResult | rdRxLen | rdMapCount | rdParam0 | rdParam1 | rdTxW0 | rdTxW1 |
      rdLayout | rdReading => exact ⟨rfl, rfl⟩
  all_goals exact absurd rfl hcls

/-- Settles O19, by the class: a command ends in a status update, no other operation performs one. -/
theorem statusUpdateOfCommands : Obligations.StatusUpdateOfCommands := by
  intro i s t hexec
  obtain ⟨hblock, -, -, -⟩ := exec_next hexec
  rw [hblock]
  refine ⟨fun hcls => ⟨?_, error_in_history_after_command hcls s.block⟩,
    fun hcls => effect_status_of_not_command s.cfg hcls s.block⟩
  obtain ⟨b', e, c, heffect, -⟩ := effect_of_command s.cfg hcls s.block
  rw [heffect]
  exact b'.setErr_cause_only_malformed e c

/-- A command reads neither ERR nor the cause bits, and the status update it ends in overwrites both. -/
theorem effect_ignores_status (p : Config.Params) {i : Instr} (hcls : i.cls = .command) (b : Block) (e : ErrCode)
    (c : Cause) : effect p i { b with err := e, cause := c } = effect p i b := by
  cases i
  case nop | crcInit | crcByte | rxClear | clrSticky | illegalCmd => rfl
  case crcCheckRx => exact (crcCheckRx_eq _).trans (crcCheckRx_eq b).symm
  case buildReq => exact (buildReq_eq p _).trans (buildReq_eq p b).symm
  case decode => exact (decodeResponse_eq _).trans (decodeResponse_eq b).symm
  case field => exact (fieldAt_eq _).trans (fieldAt_eq b).symm
  case layoutCheck => exact (layoutCheck_eq p _).trans (layoutCheck_eq p b).symm
  case extract => exact (extractReadings_eq p _).trans (extractReadings_eq p b).symm
  all_goals nomatch hcls

/-- Settles O56: a command completes with its effect, which does not depend on the status before. -/
theorem commandStatusIsFresh : Obligations.CommandStatusIsFresh :=
  fun _ s e c hcls =>
    ⟨_, _, exec_of_command hcls s, exec_of_command hcls _, effect_ignores_status s.cfg hcls s.block e c⟩

end Sys2Proof.Machine

/-! ## NOP, CLR_STICKY, CRC_INIT, RX_CLEAR and the illegal commands (44_control.md R230, R231, R233) -/

namespace Sys2Proof.Machine

open Sys2Proof.Safety

theorem clrSticky_eq (b : Block) : clrSticky b = { b with sticky := 0b00000#5, err := .ok, cause := Cause.clear } :=
  Block.setErr_ok _ _

theorem crcInit_eq (b : Block) : crcInit b = { b with crc := 0xFFFF#16, err := .ok, cause := Cause.clear } :=
  Block.setErr_ok _ _

theorem rxClear_eq (b : Block) :
    rxClear b = { b with rx := [], rxOvf := false, err := .ok, cause := Cause.clear } :=
  Block.setErr_ok _ _

/-- Settles O17: the words are the encoder's, and each effect ends in the status update with OK. -/
theorem plainCommands : Obligations.PlainCommands := by
  refine ⟨⟨fun p => decodeOfEncode p .nop rfl, fun p => decodeOfEncode p .clrSticky rfl,
    fun p => decodeOfEncode p .crcInit rfl, fun p => decodeOfEncode p .rxClear rfl⟩, fun s => ⟨?_, ?_, ?_, ?_⟩⟩
  · rw [exec_of_command rfl, effect, Block.setErr_ok]
  · rw [exec_of_command rfl, effect, clrSticky_eq]
  · rw [exec_of_command rfl, effect, crcInit_eq]
  · rw [exec_of_command rfl, effect, rxClear_eq]

/-- ILLEGAL_CMD has no cause bits and sets sticky bit 3. -/
theorem Block.setErr_illegalCmd (b : Block) :
    b.setErr .illegalCmd = { b with err := .illegalCmd, cause := Cause.clear, sticky := b.sticky ||| 0b01000#5 } := rfl

/-- The CMD write of a word that is no command. -/
theorem wordOf_illegalCmd {d : Word} (h : isIllegalCommandWord d = true) :
    WordOf (0x600000000000#47 ||| d.zeroExtend 47) (.illegalCmd d) := by
  intro p
  have hword : 0x600000000000#47 ||| d.zeroExtend 47 = encode (.illegalCmd d) := mkTrans_or true 0x000#12 d
  rw [hword]
  exact decodeOfEncode p (.illegalCmd d) h

/-- Settles O18: R233's words are the illegal ones of the decoder, and the command is a status update alone. -/
theorem illegalCommandRecorded : Obligations.IllegalCommandRecorded := by
  refine ⟨fun d h => wordOf_illegalCmd ((isIllegalCommandWord_iff d).2 h), fun s d => ?_⟩
  rw [exec_of_command rfl, effect, Block.setErr_illegalCmd]

end Sys2Proof.Machine

/-! ## The STATUS word (44_control.md R234, 10_state.md R31) -/

namespace Sys2Proof.Machine

open Sys2Proof.Safety

theorem statusWord_err (b : Block) : (statusWord b).extractLsb' 0 4 = b.err.code :=
  BitVec.extractLsb'_append_eq_right

/-- The single-bit fields, STATUS[12:4]. -/
theorem statusWord_flags (b : Block) :
    (statusWord b).getLsbD 4 = b.cause.len ∧ (statusWord b).getLsbD 5 = b.cause.crc ∧
      (statusWord b).getLsbD 6 = b.cause.bc ∧ (statusWord b).getLsbD 7 = b.cause.ovf ∧
      (statusWord b).getLsbD 8 = b.crcMatch ∧ (statusWord b).getLsbD 9 = b.txValid ∧
      (statusWord b).getLsbD 10 = b.mapValid ∧ (statusWord b).getLsbD 11 = b.rdValid ∧
      (statusWord b).getLsbD 12 = b.rxOvf := by
  simp only [statusWord, Cause.bits, BitVec.getLsbD_append, BitVec.getLsbD_ofBool]
  exact ⟨rfl, rfl, rfl, rfl, rfl, rfl, rfl, rfl, rfl⟩

/-- From bit 13 up STATUS is three zeros, STICKY and eleven zeros. -/
theorem extractLsb'_statusWord_of_le (b : Block) {lo n : Nat} (h : 13 ≤ lo) :
    (statusWord b).extractLsb' lo n = (0#11 ++ b.sticky ++ 0#3).extractLsb' (lo - 13) n := by
  rw [statusWord]
  iterate 7 rw [BitVec.extractLsb'_append_eq_of_le (by omega)]
  simp only [Nat.sub_sub]

theorem statusWord_high (b : Block) :
    (statusWord b).extractLsb' 13 3 = 0#3 ∧ (statusWord b).extractLsb' 16 5 = b.sticky ∧
      (statusWord b).extractLsb' 21 11 = 0#11 := by
  rw [extractLsb'_statusWord_of_le b (by decide), extractLsb'_statusWord_of_le b (by decide),
    extractLsb'_statusWord_of_le b (by decide)]
  refine ⟨BitVec.extractLsb'_append_eq_right, ?_, ?_⟩
  · rw [BitVec.extractLsb'_append_eq_of_le (by decide)]
    exact BitVec.extractLsb'_append_eq_right
  · rw [BitVec.extractLsb'_append_eq_of_le (by decide)]
    exact BitVec.extractLsb'_append_eq_left

/-- Settles O21: STATUS is a read of R61's map, and its word is put together of the fields R234 lists. -/
theorem statusWordFields : Obligations.StatusWordFields := by
  refine ⟨readWord_of_regAt (a := 0x004#12) rfl (fun _ => rfl) rfl, fun s => ⟨statusWord s.block, rfl, ?_, ?_⟩⟩
  · rw [statusWord_err]
    rfl
  · obtain ⟨hlen, hcrc, hbc, hovf, hmatch, htx, hmap, hrd, hrx⟩ := statusWord_flags s.block
    exact ⟨hlen, hcrc, hbc, hovf, hmatch, htx, hmap, hrd, hrx, statusWord_high s.block⟩

end Sys2Proof.Machine

/-! ## PARAM0 and PARAM1 (44_control.md R235, R236; 10_state.md R34) -/

namespace Sys2Proof.Machine

open Sys2Proof.Safety

theorem param0Word_maxCount {p : Config.Params} (h : p.maxCount < 2 ^ 16) :
    ((param0Word p).extractLsb' 0 16).toNat = p.maxCount := by
  rw [param0Word, BitVec.extractLsb'_append_eq_right, BitVec.toNat_ofNat, Nat.mod_eq_of_lt h]

theorem param0Word_rxCap {p : Config.Params} (h : p.rxCap < 2 ^ 16) :
    ((param0Word p).extractLsb' 16 16).toNat = p.rxCap := by
  rw [param0Word, BitVec.extractLsb'_append_eq_left, BitVec.toNat_ofNat, Nat.mod_eq_of_lt h]

theorem toNat_param1Word {p : Config.Params} (h : p.layoutSlots < 2 ^ 6) : (param1Word p).toNat = p.layoutSlots := by
  rw [param1Word, BitVec.toNat_append]
  simpa using h

/-- Settles O22: both are reads of R61's map, and R6 bounds each parameter by its field. -/
theorem parameterReads : Obligations.ParameterReads := by
  refine ⟨⟨?_, ?_⟩, fun s hcfg => ?_⟩
  · exact readWord_of_regAt (a := 0x024#12) rfl (fun _ => rfl) rfl
  · exact readWord_of_regAt (a := 0x028#12) rfl (fun _ => rfl) rfl
  · obtain ⟨-, hfits, hcap, -, hslots⟩ := hcfg
    exact ⟨param0Word s.cfg, param1Word s.cfg, rfl, param0Word_maxCount (by omega), param0Word_rxCap (by omega), rfl,
      toNat_param1Word (by omega)⟩

end Sys2Proof.Machine

/-! # Proofs, 60_exceptions.md: the block is total, and what DECODE leaves -/

/-! ## No step is refused (60_exceptions.md R262) -/

namespace Sys2Proof.Machine

/-- Settles O9, by the branches of a step: an operation and a bus error are the only ones that answer for the block, and
neither is a refusal. -/
theorem stepNeverRefuses : Obligations.StepNeverRefuses := by
  intro s r
  unfold step
  split
  · nofun
  · nofun
  · split
    · exact exec_ne_refused _ _ _
    · exact busFault_ne_refused _ _ _ _

end Sys2Proof.Machine

/-! ## DECODE and the state before it (42_frame_parse.md section 4, 60_exceptions.md R254) -/

namespace Sys2Proof.Machine

theorem Block.expectedCount_congr {b b' : Block} (h : b.arg1 = b'.arg1) : b.expectedCount = b'.expectedCount :=
  congrArg BitVec.toNat h

/-- The buffer, its overflow bit and the count alone tell whether DECODE succeeds. -/
theorem Block.accepts_congr {b b' : Block} (hrx : b.rx = b'.rx) (hovf : b.rxOvf = b'.rxOvf)
    (hcount : b.expectedCount = b'.expectedCount) : b.accepts = b'.accepts := by
  rw [Block.accepts, Block.accepts, hrx, hovf, hcount]

/-- Settles O46: every value of DECODE's one update is a function of the buffer, the overflow bit and the count, and the
readings it leaves are none. -/
theorem decodeIgnoresHistory : Obligations.DecodeIgnoresHistory := by
  intro s s' hrx hovf harg1
  have hcount := Block.expectedCount_congr harg1
  have hacc := Block.accepts_congr hrx hovf hcount
  refine ⟨_, _, exec_decode s, exec_decode s', ?_⟩
  simp [decodeResponse_eq, Block.beginDecode, hrx, hovf, hcount, hacc]

end Sys2Proof.Machine

/-! # Proofs, 70_reset_and_hazards.md: what reset leaves, and that what the host sends is all carried out -/

/-! ## The machine after reset (70_reset_and_hazards.md R280, R281) -/

namespace Sys2Proof.Safety

open Sys2Proof.Machine

/-- Settles O14: the parameters meet R6, and the block of R280 has the invariants under any parameters. -/
theorem invariantAtReset : Obligations.InvariantAtReset :=
  ⟨Config.params_ok, blockInv_reset _⟩

/-- Settles O16: the block of R280 is coherent under any parameters. -/
theorem coherenceAtReset : Obligations.CoherenceAtReset :=
  coherent_reset _

end Sys2Proof.Safety

namespace Sys2Proof.Machine

/-- Settles O8: a reset event and an empty program are each a case of the step, which names its next state. -/
theorem hostEventsWithoutTransaction : Obligations.HostEventsWithoutTransaction := by
  refine ⟨fun s rest hprog => ?_, fun s hprog => ?_⟩
  · rw [step, hprog]
    rfl
  · rw [step, hprog]

theorem reset_layout_getElem (k : Fin 32) : Block.reset.layout[k] = Slot.empty := by
  simp [Block.reset]

theorem reset_reading_getElem (k : Fin 32) : Block.reset.reading[k] = none :=
  Safety.noReadings_getElem k

/-- "So STATUS reads `0x00000000` after reset" (70_reset_and_hazards.md R280). -/
theorem statusWord_reset : statusWord Block.reset = 0x00000000#32 := by decide

theorem txWord_reset : txWord0 Block.reset.tx = 0x00000000#32 ∧ txWord1 Block.reset.tx = 0x00000000#32 := by decide

theorem slotWord_empty : slotWord Slot.empty = 0x00000000#32 := by decide

theorem exec_rdLayout_reset {k : Fin 32} (hk : k.val < State.reset.cfg.layoutSlots) :
    exec (.rdLayout k) State.reset = State.reset.read 0x00000000#32 := by
  rw [← slotWord_empty, ← reset_layout_getElem k]
  exact if_pos hk

theorem exec_rdReading_reset {k : Fin 32} (hk : k.val < State.reset.cfg.layoutSlots) :
    exec (.rdReading k) State.reset = State.reset.read 0x00000000#32 := by
  have hword : readingWord Block.reset.layout[k].nameId Block.reset.reading[k] = 0x00000000#32 := by
    rw [reset_reading_getElem, readingWord]
  rw [← hword]
  exact if_pos hk

/-- Settles O12: the components are `Block.reset`'s, and each word is put together of them. -/
theorem resetValues : Obligations.ResetValues := by
  refine ⟨⟨rfl, rfl, rfl, rfl, fun j => ?_, rfl, rfl, rfl, rfl, rfl, fun k => ?_, rfl, rfl, rfl, rfl, rfl⟩, ?_⟩
  · exact Vector.getElem_replicate j.isLt
  · have hslot : State.reset.block.layout[k] = Slot.empty := reset_layout_getElem k
    rw [hslot]
    exact ⟨rfl, rfl, rfl, rfl, reset_reading_getElem k⟩
  · obtain ⟨htx0, htx1⟩ := txWord_reset
    exact ⟨congrArg State.reset.read statusWord_reset, rfl, rfl, rfl, rfl, congrArg State.reset.read htx0,
      congrArg State.reset.read htx1, rfl, rfl, fun k hk => ⟨exec_rdLayout_reset hk, exec_rdReading_reset hk⟩⟩

end Sys2Proof.Machine

/-! ## Runs of the host's program (70_reset_and_hazards.md R285) -/

namespace Sys2Proof.Safety

open Sys2Proof.Machine

/-- A step takes one event off what the host sends. -/
theorem program_of_step {s t : State} (hstep : step s = .next t) : t.port.program = s.port.program.tail := by
  obtain ⟨hprog, rfl⟩ | ⟨rest, hprog, rfl⟩ | ⟨w, rest, i, hprog, -, hexec⟩ := step_cases hstep
  · rw [hprog, List.tail_nil]
  · rw [hprog, State.resetInput_port, List.tail_cons]
  · obtain ⟨-, -, hrest, -⟩ := exec_next hexec
    rw [hrest, hprog, State.accept_port, List.tail_cons]

/-- The reset input is taken in every state, a transaction unless it is a bus error. -/
theorem step_completes_of_accepted {s : State} {e : HostEvent} {rest : List HostEvent} (hcfg : s.cfg.Ok)
    (hprog : s.port.program = e :: rest) (haccepted : Accepted s.cfg e) : ∃ t, step s = .next t := by
  cases e with
  | reset => exact ⟨_, hostEventsWithoutTransaction.1 s rest hprog⟩
  | transaction w =>
    obtain ⟨-, hcompletes⟩ := busErrorExactly s w rest hcfg hprog
    exact hcompletes.2 haccepted

theorem run_succ_of_step (M : Host.Core) {s t : M.State} (hstep : M.step s = .next t) (n : Nat) :
    M.run (n + 1) s = M.run n t := by
  rw [Host.Core.run, hstep]

/-- A run as long as a program of accepted events carries it out and keeps the parameters. -/
theorem run_of_accepted (es : List HostEvent) {s : State} (hcfg : s.cfg.Ok) (hprog : s.port.program = es)
    (haccepted : ∀ e ∈ es, Accepted s.cfg e) :
    ∃ t, Sys2Proof.core.run es.length s = .next t ∧ t.port.program = [] ∧ t.cfg = s.cfg := by
  induction es generalizing s with
  | nil => exact ⟨s, rfl, hprog, rfl⟩
  | cons e rest ih =>
    obtain ⟨hfirst, hrest⟩ := List.forall_mem_cons.1 haccepted
    obtain ⟨u, hstep⟩ := step_completes_of_accepted hcfg hprog hfirst
    have hucfg : u.cfg = s.cfg := configurationFixed s u hstep
    have huprog : u.port.program = rest := by rw [program_of_step hstep, hprog, List.tail_cons]
    rw [← hucfg] at hcfg hrest ⊢
    obtain ⟨t, hrun, hdone⟩ := ih hcfg huprog hrest
    exact ⟨t, (run_succ_of_step Sys2Proof.core hstep rest.length).trans hrun, hdone⟩

/-- Settles O10, by induction over what the host sends. -/
theorem acceptedProgramFinishes : Obligations.AcceptedProgramFinishes :=
  fun s hcfg haccepted => run_of_accepted s.port.program hcfg rfl haccepted

end Sys2Proof.Safety

/-! # Proofs, 40_crc.md, 41_frame_build.md, 42_frame_parse.md: what the CRC detects -/

/-! ## The CRC step is linear and loses nothing (40_crc.md R122) -/

namespace Sys2Proof.Machine

/-- The CRC has no constant term: it commutes with XOR, bit by bit. -/
theorem crcBit_xor (c d : Half) : crcBit (c ^^^ d) = crcBit c ^^^ crcBit d := by
  unfold crcBit
  rw [BitVec.getLsbD_xor, BitVec.ushiftRight_xor_distrib]
  cases c.getLsbD 0 <;> cases d.getLsbD 0
  · rfl
  · exact BitVec.xor_assoc _ _ _
  · change c >>> 1 ^^^ d >>> 1 ^^^ crcPoly = c >>> 1 ^^^ crcPoly ^^^ d >>> 1
    ac_rfl
  · calc c >>> 1 ^^^ d >>> 1 = c >>> 1 ^^^ d >>> 1 ^^^ (crcPoly ^^^ crcPoly) := by
          rw [BitVec.xor_self, BitVec.xor_zero]
      _ = c >>> 1 ^^^ crcPoly ^^^ (d >>> 1 ^^^ crcPoly) := by ac_rfl

theorem crcBits_xor (k : Nat) (c d : Half) : crcBits k (c ^^^ d) = crcBits k c ^^^ crcBits k d := by
  induction k generalizing c d with
  | zero => rfl
  | succ k ih => rw [crcBits, crcBit_xor, ih, crcBits, crcBits]

theorem crcStep_xor (c d : Half) (x y : Byte) : crcStep (c ^^^ d) (x ^^^ y) = crcStep c x ^^^ crcStep d y := by
  have hbyte : (x ^^^ y).zeroExtend 16 = x.zeroExtend 16 ^^^ y.zeroExtend 16 := BitVec.setWidth_xor
  rw [crcStep, crcStep, crcStep, ← crcBits_xor, hbyte]
  ac_rfl

/-- The bit shifted out is still there: it tells whether the polynomial was added, whose top bit is set. -/
theorem getLsbD_crcBit_top (c : Half) : (crcBit c).getLsbD 15 = c.getLsbD 0 := by
  have htop : (c >>> 1).getLsbD 15 = false := by
    rw [BitVec.getLsbD_ushiftRight]
    exact c.getLsbD_of_ge _ (Nat.le_refl _)
  have hpoly : crcPoly.getLsbD 15 = true := rfl
  unfold crcBit
  cases c.getLsbD 0
  · exact htop
  · rw [if_pos rfl, BitVec.getLsbD_xor, htop, hpoly]
    rfl

theorem crcBit_injective : Function.Injective crcBit := by
  intro c d h
  have hlow : c.getLsbD 0 = d.getLsbD 0 := by rw [← getLsbD_crcBit_top, h, getLsbD_crcBit_top]
  have hrest : c >>> 1 = d >>> 1 := by
    unfold crcBit at h
    rw [hlow] at h
    split at h
    · exact (BitVec.xor_left_inj _).1 h
    · exact h
  apply BitVec.eq_of_getLsbD_eq
  intro j _
  cases j with
  | zero => exact hlow
  | succ j =>
    have hbit := congrArg (BitVec.getLsbD · j) hrest
    simpa [Nat.add_comm] using hbit

theorem crcBits_injective (k : Nat) : Function.Injective (crcBits k) := by
  induction k with
  | zero => exact fun _ _ h => h
  | succ k ih => exact ih.comp crcBit_injective

theorem crcStep_injective_left (b : Byte) : Function.Injective fun c => crcStep c b :=
  fun _ _ h => (BitVec.xor_left_inj _).1 (crcBits_injective 8 h)

theorem crcStep_injective_right (c : Half) : Function.Injective (crcStep c) := by
  intro x y h
  have hwide : x.zeroExtend 16 = y.zeroExtend 16 := (BitVec.xor_right_inj _).1 (crcBits_injective 8 h)
  simpa using congrArg (BitVec.setWidth 8) hwide

/-- Different values of the generator stay different over any bytes. -/
theorem crc16_injective_left (m : List Byte) : Function.Injective fun init => crc16 init m := by
  induction m with
  | nil => exact fun _ _ h => h
  | cons b m ih => exact ih.comp (crcStep_injective_left b)

end Sys2Proof.Machine

/-! ## The table form of the CRC step (40_crc.md section 1) -/

namespace Sys2Proof.Machine

theorem le16_hiByte_zero (c : Half) : le16 (hiByte c) 0x00#8 = c >>> 8 := by
  apply BitVec.eq_of_toNat_eq
  rw [le16_eq_be16, toNat_be16, hiByte, BitVec.extractLsb'_toNat, BitVec.toNat_ushiftRight,
    Nat.shiftRight_eq_div_pow, BitVec.toNat_zero]
  omega

/-- A CRC continued over its own low byte moves its high byte down. -/
theorem crcStep_loByte (c : Half) : crcStep c (loByte c) = c >>> 8 := by
  have hstep := crcStep_le16 (loByte c) (hiByte c)
  rwa [le16_eq_be16, be16_hiByte_loByte, le16_hiByte_zero] at hstep

/-- Settles O33, by linearity: the byte is the value's low byte, whose step only shifts, XORed with the rest. -/
theorem crcStepTableForm : Obligations.CrcStepTableForm := by
  intro c b
  calc crcStep c b = crcStep (c ^^^ 0x0000#16) (loByte c ^^^ (b ^^^ loByte c)) := by
        rw [BitVec.xor_zero, BitVec.xor_comm b, ← BitVec.xor_assoc, BitVec.xor_self, BitVec.zero_xor]
    _ = (c >>> 8) ^^^ crcStep 0x0000#16 (b ^^^ loByte c) := by rw [crcStep_xor, crcStep_loByte]

end Sys2Proof.Machine

/-! ## The residue, and a change of one byte (40_crc.md section 3) -/

namespace Sys2Proof.Machine

/-- A trailer that is the CRC of the body takes the CRC to 0: each of its bytes cancels the low byte it meets. -/
theorem crc16_append_trailer {init : Half} {body : List Byte} {lo hi : Byte} (h : crc16 init body = le16 lo hi) :
    crc16 init (body ++ [lo, hi]) = 0x0000#16 := by
  rw [crc16_append, h]
  calc crcStep (crcStep (le16 lo hi) lo) hi = crcStep (le16 hi 0x00#8) hi := by rw [crcStep_le16]
    _ = 0x0000#16 := crcStep_le16 hi 0x00#8

/-- Settles O34: the two CRC bytes are such a trailer. -/
theorem crcResidueZero : Obligations.CrcResidueZero :=
  fun _ _ => crc16_append_trailer (be16_hiByte_loByte _).symm

/-- Settles O35: the changed byte takes one generator value to two, and those stay different. -/
theorem crcDetectsByteChange : Obligations.CrcDetectsByteChange := by
  intro init a b x y hne heq
  rw [crc16_append, crc16_append] at heq
  exact hne (crcStep_injective_right _ (crc16_injective_left b heq))

end Sys2Proof.Machine

/-! ## The CRC over the request frame (41_frame_build.md section 3) -/

namespace Sys2Proof.Machine

theorem crc16_requestFrame (st n : Half) : crc16 0xFFFF#16 (requestFrame st n).toList = 0x0000#16 :=
  crcResidueZero 0xFFFF#16 [unitId, fcReadHolding, hiByte st, loByte st, hiByte n, loByte n]

theorem buildReq_tx_of_ok {p : Config.Params} {b : Block} (hok : (buildReq p b).err = .ok) :
    (buildReq p b).tx = requestFrame b.startOffset b.count := by
  by_cases hbad : b.count.toNat = 0 ∨ p.maxCount < b.count.toNat
  · rw [buildReq_of_bad_count hbad, Block.setErr_badParam] at hok
    cases hok
  · rw [buildReq_of_good_count (by omega)]
    rfl

/-- Settles O38: a BUILD_REQ that ended with OK wrote the frame, whose last two bytes are the CRC of the others. -/
theorem buildReqFrameResidue : Obligations.BuildReqFrameResidue := by
  intro s t hexec hok
  obtain ⟨⟩ := (exec_buildReq s).symm.trans hexec
  exact (congrArg (fun tx => crc16 0xFFFF#16 tx.toList) (buildReq_tx_of_ok hok)).trans (crc16_requestFrame _ _)

end Sys2Proof.Machine

/-! ## A corrupted response (42_frame_parse.md section 4) -/

namespace Sys2Proof.Machine

theorem crc16_eq_zero_of_crcOk {rx : List Byte} (h : crcOk rx = true) : crc16 0xFFFF#16 rx = 0x0000#16 := by
  obtain ⟨body, lo, hi, rfl, hcrc⟩ := (crcOk_iff rx).1 h
  exact crc16_append_trailer hcrc

theorem crcOk_eq_false_of_byte_change {a b : List Byte} {x y : Byte} (h : crcOk (a ++ x :: b) = true) (hne : x ≠ y) :
    crcOk (a ++ y :: b) = false := by
  rw [← Bool.not_eq_true]
  intro hy
  exact crcDetectsByteChange _ a b x y hne ((crc16_eq_zero_of_crcOk h).trans (crc16_eq_zero_of_crcOk hy).symm)

/-- 42_frame_parse.md R181 check (b), R182: a failed CRC check alone rejects the buffer. -/
theorem decodeResponse_of_crc_failed {b : Block} (h : crcOk b.rx = false) :
    (decodeResponse b).err = .malformed ∧ (decodeResponse b).cause.crc = true ∧ (decodeResponse b).crcMatch = false ∧
      (decodeResponse b).map = [] ∧ (decodeResponse b).mapValid = false := by
  have hrej : b.accepts = false := by simp [Block.accepts, h]
  simp [decodeResponse_of_not_accepts hrej, Block.beginDecode, h]

/-- Settles O43: the CRC is 0 over the valid frame, so it is not 0 over the changed one, whose check then fails. -/
theorem decodeDetectsCorruption : Obligations.DecodeDetectsCorruption := by
  intro s a b body x y lo hi hframe hcrc hne hrx
  have hvalid : crcOk (a ++ x :: b) = true := (crcOk_iff _).2 ⟨body, lo, hi, hframe, hcrc⟩
  have hfail : crcOk s.block.rx = false := by rw [hrx, crcOk_eq_false_of_byte_change hvalid hne]
  exact ⟨_, exec_decode s, decodeResponse_of_crc_failed hfail⟩

end Sys2Proof.Machine
